-- ==== Sys2Proof/Word.lean ====
section
/-! DEFINITION. The two word types of the link layer (spec/10, R193): what arrives and leaves is bytes, and fields of
two bytes are sixteen-bit words. Every other number of the spec is a count, an index or a basis-point figure and is a
`Nat` or a `Fin`. -/

namespace Sys2Proof

/-- One byte on a link. -/
abbrev Byte := BitVec 8

/-- A two-byte field, and the register of the CRC-16 (R151). -/
abbrev Word16 := BitVec 16

end Sys2Proof
end

