-- ==== Sys2Proof/Config.lean ====
section
/-! DEFINITION. The free values: what the spec leaves open and the machine goes on with. An opaque constant has no body,
so no proof can rest on a value of it. -/

namespace Sys2Proof

/-- How many further cells the running DIGEST job has read when an engine item that writes the same slot's map is taken
(R140, R155: each cell is read "when the job reaches it", and nothing says when that is). It is applied to the counter
`Machine.State.freeIndex`, so that every such item meets a value of its own, and the job reads no further than its
range. Assumption 3. -/
opaque Config.cellsReadAhead : Nat → Nat

end Sys2Proof
end

