-- ==== Sys2Proof/Syntax.lean ====
section
/-! DEFINITION. The commands of the block: one constructor of `Instr` for each row of spec/opcode_table.json, in the
table's order, with the operands its rule names. A row that takes a frame (TDR, CLQ, RTP) or a CL command carries that
frame's fields as they stand on the wire (spec/10, R193 and R194), because the range checks of each command are part of
its meaning; a row that is an event of one link carries the link; every other row is an event of one unit and carries
nothing. -/

namespace Sys2Proof

/-- A lot identifier as sent: 12 characters, first character first (R193). `Instr.wf` asks for the length. -/
abbrev LotId := List Byte

/-- One soft-bin entry of an LDRC frame (R194): the flag byte (4 defined, 2 PASS, 1 retest eligible), the hard bin, the
rank and the ceiling, as sent. -/
structure EntryWire where
  flags   : Byte
  hardBin : Byte
  rank    : Byte
  ceiling : Word16
  deriving DecidableEq, Repr

/-- The eight recipe scalars of LDRC part 1 as sent (R1, R9, R194). -/
structure ScalarsWire where
  policy       : Byte
  attemptLimit : Byte
  waferFloor   : Word16
  lotFloor     : Word16
  minSample    : Word16
  hysteresis   : Word16
  runLimit     : Byte
  advice       : Byte
  deriving DecidableEq, Repr

/-- One entry of an STMP frame as sent (R50, R194). -/
structure SiteWire where
  site    : Byte
  enabled : Byte
  dx      : Byte
  dy      : Byte
  deriving DecidableEq, Repr

/-- The commands and events of the HD-640, one constructor per row of the table.

Links are numbered 0 to 11 for TL0 to TL11 and 12 for CL (R175). -/
inductive Instr where
  /-- POWER_ON (R41): power-on. -/
  | powerOn
  /-- RESET_PIN_ASSERT (R178): the RESET pin is asserted. -/
  | resetPinAssert
  /-- RESET_PIN_RELEASE (R178): the RESET pin is released. -/
  | resetPinRelease
  /-- BYTE_RECEIVED (R165): the byte `b` arrives on a link. -/
  | byteReceived (link : Fin 13) (b : Byte)
  /-- INTER_BYTE_TIMEOUT (R167): the inter-byte timer of a link's receiver expires. -/
  | interByteTimeout (link : Fin 13)
  /-- MESSAGE_SENT (R177): the last byte of the outbound frame on a link's line is sent. -/
  | messageSent (link : Fin 13)
  /-- FRAME_DISCARD (R65): the engine takes a tester frame of unknown type or wrong length. -/
  | frameDiscard (link : Fin 12)
  /-- TDR (R68): the engine takes a touchdown report of a tester link; `results` are the bytes after the count. -/
  | tdr (link : Fin 12) (aliasNo : Byte) (x0 y0 : Word16) (count : Byte) (results : List Byte)
  /-- CLQ (R81): the engine takes a cell query. -/
  | clq (link : Fin 12) (aliasNo x y : Byte)
  /-- RTP (R83): the engine takes a retest pick. -/
  | rtp (link : Fin 12) (aliasNo : Byte) (start : Word16) (maxCount : Byte)
  /-- COMMAND_TAKE (R180): the Command Interpreter takes the head frame of CL's holding queue. -/
  | commandTake
  /-- LDRC_PART_1 (R9): LDRC with the 171-byte body of part 1; `part` is the part byte as sent. -/
  | ldrcPart1 (tag recipe part : Byte) (scalars : ScalarsWire) (entries : List EntryWire)
  /-- LDRC_PART_2 (R10): LDRC with the 164-byte body of part 2; `part` is the part byte as sent. -/
  | ldrcPart2 (tag recipe part : Byte) (entries : List EntryWire)
  /-- RDRC (R13): read recipe. -/
  | rdrc (tag recipe part : Byte)
  /-- OPLT (R124): open lot. -/
  | oplt (tag : Byte) (ident : LotId) (recipe : Byte)
  /-- CLLT (R129): close lot. -/
  | cllt (tag : Byte) (ident : LotId)
  /-- RTLT (R133): retire lot. -/
  | rtlt (tag : Byte) (ident : LotId)
  /-- LSUM (R136): lot summary. -/
  | lsum (tag : Byte) (ident : LotId) (first last position : Byte)
  /-- OPWF (R22): open wafer. -/
  | opwf (tag : Byte) (ident : LotId) (wafer : Byte) (rows cols : Word16) (round forceHold : Byte)
  /-- CLWF (R141): close wafer. -/
  | clwf (tag slot : Byte)
  /-- RPWF (R148): reopen wafer. -/
  | rpwf (tag slot : Byte)
  /-- RTWF (R33): retire wafer. -/
  | rtwf (tag slot : Byte)
  /-- PINS (R34): pin slot. -/
  | pins (tag slot : Byte)
  /-- UPIN (R35): unpin slot. -/
  | upin (tag slot : Byte)
  /-- FNDW (R37): find wafer. -/
  | fndw (tag : Byte) (ident : LotId) (wafer : Byte)
  /-- WSUM (R114): wafer summary. -/
  | wsum (tag slot first last : Byte)
  /-- RDCL (R38): read cells. -/
  | rdcl (tag slot y x count : Byte)
  /-- FRCL (R86): force cell. -/
  | frcl (tag slot x y bin : Byte)
  /-- UFCL (R88): unforce cell. -/
  | ufcl (tag slot x y : Byte)
  /-- EXCL (R89): exclude rectangle. -/
  | excl (tag slot x1 y1 x2 y2 : Byte)
  /-- INCL (R91): include rectangle. -/
  | incl (tag slot x1 y1 x2 y2 : Byte)
  /-- XPRT (R157): export map. -/
  | xprt (tag slot : Byte)
  /-- XSTP (R161): stop export. -/
  | xstp (tag : Byte)
  /-- DGST (R153): digest. -/
  | dgst (tag slot : Byte) (start count : Word16)
  /-- BIND (R45): bind alias. -/
  | bind (tag link aliasNo slot : Byte)
  /-- UBND (R47): unbind alias. -/
  | ubnd (tag link aliasNo : Byte)
  /-- RSMB (R58): reset binding monitor. -/
  | rsmb (tag link aliasNo : Byte)
  /-- STMP (R50): set site map; `count` is the count byte as sent. -/
  | stmp (tag link count : Byte) (entries : List SiteWire)
  /-- RLHD_WAFER (R112): RLHD whose kind byte is not LOT; `ident` is carried and ignored. -/
  | rlhdWafer (tag kind slot : Byte) (ident : LotId)
  /-- RLHD_LOT (R131): RLHD of kind LOT; `slot` is carried and ignored. -/
  | rlhdLot (tag slot : Byte) (ident : LotId)
  /-- LCTL_START (R172): LCTL with action 0, or with an action code that names none of the six; `value` is ignored. -/
  | lctlStart (tag link action value : Byte)
  /-- LCTL_STOP_DRAIN (R172): LCTL with action 1; `value` is ignored. -/
  | lctlStopDrain (tag link value : Byte)
  /-- LCTL_STOP_FORCE (R172): LCTL with action 2; `value` is ignored. -/
  | lctlStopForce (tag link value : Byte)
  /-- LCTL_RESTART (R173): LCTL with action 3; `value` is ignored. -/
  | lctlRestart (tag link value : Byte)
  /-- LCTL_SET_MODE (R173): LCTL with action 4. -/
  | lctlSetMode (tag link value : Byte)
  /-- LCTL_SET_RATE (R173): LCTL with action 5. -/
  | lctlSetRate (tag link value : Byte)
  /-- LSTA (R176): link status. -/
  | lsta (tag link : Byte)
  /-- ASTA (R188): alert status. -/
  | asta (tag selector first : Byte)
  /-- STPA (R189): stop all. -/
  | stpa (tag : Byte)
  /-- RSMA (R189): resume all. -/
  | rsma (tag : Byte)
  /-- CLRA (R190): clear all. -/
  | clra (tag : Byte)
  /-- CLEARING_END (R31): the Clear Unit finishes the slot at the head of its list. -/
  | clearingEnd
  /-- SWEEP_END (R145): the running SWEEP job ends. -/
  | sweepEnd
  /-- DIGEST_END (R154): the running DIGEST job ends. -/
  | digestEnd
  /-- MCH (R159): the Export Unit places the next map chunk. -/
  | mch
  /-- MND (R160): the Export Unit places the map end. -/
  | mnd
  /-- DON (R184): the interpreter places the DON at the head of the completion list. -/
  | don
  deriving DecidableEq, Repr

end Sys2Proof
end

