-- ==== Sys2Proof/Machine/State.lean ====
section
/-! DEFINITION. The state of the HD-640: every record, queue, unit and link item the spec names, as plain data, and the
state after reset. The field comments name the rule that gives each. -/

namespace Sys2Proof.Machine

/-! ### Recipe Table (R1, R2, R4, R8) -/

/-- The retest policy (R72). -/
inductive RetestPolicy where
  | last | best | stickyPass
  deriving DecidableEq, Repr

/-- The breach advice scalar (R1). -/
inductive BreachAdvice where
  | continue | pause
  deriving DecidableEq, Repr

/-- The class of a soft bin (R3). -/
inductive BinClass where
  | pass | fail
  deriving DecidableEq, Repr

/-- The state of a recipe record (R4). -/
inductive RecipeState where
  | empty | invalid | valid
  deriving DecidableEq, Repr

/-- A soft-bin entry of a recipe (R2). -/
structure BinEntry where
  defined  : Bool
  cls      : BinClass
  hardBin  : Nat
  rank     : Nat
  ceiling  : Nat
  eligible : Bool
  deriving DecidableEq, Repr

/-- The eight scalars of a recipe (R1). -/
structure Scalars where
  policy       : RetestPolicy
  attemptLimit : Nat
  waferFloor   : Nat
  lotFloor     : Nat
  minSample    : Nat
  hysteresis   : Nat
  runLimit     : Nat
  advice       : BreachAdvice
  deriving DecidableEq, Repr

/-- A recipe record (R1). `entries` is indexed by soft bin; index 0 stands for "no bin" and is never read. -/
structure Recipe where
  state     : RecipeState
  loadCount : Byte
  scalars   : Scalars
  entries   : Vector BinEntry 64
  deriving DecidableEq, Repr

/-- The load staging when it is not empty (R8): the recipe number, part 1 as stored after clamping, and the number of
fields clamped in part 1. `entries` holds soft bins 1 to 31, first bin first. -/
structure Staging where
  recipe  : Fin 8
  scalars : Scalars
  entries : List BinEntry
  clamped : Nat
  deriving DecidableEq, Repr

/-- The reset values of a soft-bin entry (R5). -/
def BinEntry.reset : BinEntry := ⟨false, .fail, 8, 15, 0, false⟩

/-- The reset values of the scalars (R5). -/
def Scalars.reset : Scalars := ⟨.last, 1, 0, 0, 1, 0, 0, .continue⟩

/-- A recipe record after reset (R5). -/
def Recipe.reset : Recipe := ⟨.empty, 0, Scalars.reset, Vector.replicate 64 BinEntry.reset⟩

/-! ### Tallies and limit states (R17, R93, R118) -/

/-- The state of one limit (R93). -/
inductive Breach where
  | clear | breach
  deriving DecidableEq, Repr

/-- The wafer or lot verdict (R110, R118). -/
inductive Disposition where
  | none | accept | hold | released
  deriving DecidableEq, Repr

/-- A tested count, a pass count and 64 soft-bin counts (R17, R118); index 0 always holds 0. -/
structure Tallies where
  tested : Nat
  passed : Nat
  counts : Vector Nat 64
  deriving DecidableEq, Repr

/-- The limit states of a slot or a lot (R93, R117). A bin with no ceiling test has no state of its own; its place
holds CLEAR. -/
structure LimitStates where
  bins  : Vector Breach 64
  yield : Breach
  seen  : Bool
  deriving DecidableEq, Repr

/-- Tallies of nothing tested. -/
def Tallies.zero : Tallies := ⟨0, 0, Vector.replicate 64 0⟩

/-- Every state CLEAR and the breach-seen mark no. -/
def LimitStates.clear : LimitStates := ⟨Vector.replicate 64 .clear, .clear, false⟩

/-! ### Cells and slots (R17, R18) -/

/-- The status of a cell (R18). -/
inductive CellStatus where
  | untested | tested | forced | excluded
  deriving DecidableEq, Repr

/-- The last source of a cell: tester link and site (R18). -/
structure Source where
  link : Fin 12
  site : Fin 32
  deriving DecidableEq, Repr

/-- A cell record (R18). -/
structure Cell where
  status   : CellStatus
  bin      : Fin 64
  attempts : Nat
  source   : Option Source
  deriving DecidableEq, Repr

/-- What the Clear Unit leaves in a cell record (R30), and what an unlisted index of a `Memory` reads as. -/
def Cell.blank : Cell := ⟨.untested, 0, 0, none⟩

/-- What initialization and EXCL leave in an excluded cell (R27, R90). -/
def Cell.excludedCell : Cell := ⟨.excluded, 0, 0, none⟩

/-- The cell records of one slot: indices strictly rising, and no entry equal to `Cell.blank`. -/
abbrev Memory := List (Nat × Cell)

/-- The state of a slot (R19). -/
inductive SlotState where
  | free | clearing | opened | closing | closed | exporting
  deriving DecidableEq, Repr

/-- A slot's identity: lot entry and wafer number (R17). -/
structure Identity where
  lot   : Fin 16
  wafer : Nat
  deriving DecidableEq, Repr

/-- A slot's geometry (R17). -/
structure Geometry where
  rows  : Nat
  cols  : Nat
  round : Bool
  deriving DecidableEq, Repr

/-- A pending open (R17): the open request of an OPWF that waits for a clearing to end, with the OPWF's tag. -/
structure PendingOpen where
  lot       : Fin 16
  wafer     : Nat
  rows      : Nat
  cols      : Nat
  round     : Bool
  forceHold : Bool
  tag       : Byte
  deriving DecidableEq, Repr

/-- The long operation a busy marker names (R40). -/
inductive Busy where
  | sweep | digest | transfer
  deriving DecidableEq, Repr

/-- A slot record with its cell records (R17, R18). -/
structure Slot where
  state       : SlotState
  identity    : Option Identity
  recipe      : Option (Fin 8)
  geometry    : Option Geometry
  mapSize     : Nat
  tallies     : Tallies
  shadowed    : Nat
  disposition : Disposition
  closeDigest : Option Word16
  finalYield  : Option Nat
  closeSeq    : Option Nat
  exported    : Bool
  forceHold   : Bool
  pinned      : Bool
  pendingOpen : Option PendingOpen
  busy        : Option Busy
  limits      : LimitStates
  cells       : Memory
  deriving DecidableEq, Repr

/-- The record of a slot that holds no wafer: every optional field absent, every count 0, every mark no (R32, R41). -/
def Slot.empty (st : SlotState) (cells : Memory) : Slot :=
  ⟨st, none, none, none, 0, Tallies.zero, 0, .none, none, none, none, false, false, false, none, none,
    LimitStates.clear, cells⟩

/-- One entry of the wafer directory (R36). -/
structure DirectoryEntry where
  lot   : Fin 16
  wafer : Nat
  slot  : Fin 64
  deriving DecidableEq, Repr

/-! ### Lots (R118, R120) -/

/-- The state of a lot entry (R119). -/
inductive LotState where
  | free | opened | closed | retiring
  deriving DecidableEq, Repr

/-- A member entry of a lot (R120). -/
structure Member where
  wafer       : Nat
  slot        : Option (Fin 64)
  retired     : Bool
  opening     : Bool
  finalYield  : Option Nat
  disposition : Disposition
  deriving DecidableEq, Repr

/-- The retirement set and the retirement tag, present in RETIRING (R118). -/
structure Retirement where
  slots : List (Fin 64)
  tag   : Byte
  deriving DecidableEq, Repr

/-- A lot entry (R118). -/
structure Lot where
  state       : LotState
  ident       : Option LotId
  recipe      : Option (Fin 8)
  members     : List Member
  totals      : Tallies
  carry       : Tallies
  limits      : LimitStates
  disposition : Disposition
  retirement  : Option Retirement
  deriving DecidableEq, Repr

/-- A FREE lot entry (R119, R123). -/
def Lot.free : Lot :=
  ⟨.free, none, none, [], Tallies.zero, Tallies.zero, LimitStates.clear, .none, none⟩

/-! ### Binding Table (R43, R49) -/

/-- An alias entry (R43). The entry is bound exactly when `slot` is present. -/
structure Binding where
  slot      : Option (Fin 64)
  runBin    : Option (Fin 64)
  runLength : Nat
  alarm     : Bool
  deriving DecidableEq, Repr

/-- A site map entry (R49). -/
structure SiteEntry where
  enabled : Bool
  dx      : Int
  dy      : Int
  deriving DecidableEq, Repr

/-- The records the Binding Table keeps for one tester link: alias entries 1 to 4 at places 0 to 3, and the site map. -/
structure Tester where
  bindings : Vector Binding 4
  sites    : Vector SiteEntry 32
  deriving DecidableEq, Repr

/-- An unbound alias entry (R43, R44). -/
def Binding.unbound : Binding := ⟨none, none, 0, false⟩

/-- A site map entry after reset (R49). -/
def SiteEntry.reset : SiteEntry := ⟨false, 0, 0⟩

/-- A tester link's records after reset (R44, R49). -/
def Tester.reset : Tester := ⟨Vector.replicate 4 Binding.unbound, Vector.replicate 32 SiteEntry.reset⟩

/-! ### Codes (R196) -/

/-- The status of an RSP (R196). -/
inductive Status where
  | ok | badField | range | wrongState | busy | noLot | lotClosed | duplicate | lotFull | lotTableFull | noSlot
  | badRecipe | inUse | notStaged | notInUse | pinFull | excludedCell | badBin | notForced | notRunning
  | membersActive
  deriving DecidableEq, Repr

/-- The status of a DON (R183). -/
inductive DoneStatus where
  | ok | stopped | cancelled
  deriving DecidableEq, Repr

/-- The status of an MND (R160). -/
inductive EndStatus where
  | complete | stopped
  deriving DecidableEq, Repr

/-- The verdict of a TDA and the result of a CLA or an RTA (R67, R77, R81, R84, R196). -/
inductive Verdict where
  | ok | noneTaken | malformed | unbound | notOpen | offMap
  deriving DecidableEq, Repr

/-- The outcome of one site result (R68, R80). -/
inductive SiteOutcome where
  | appliedNew | appliedRetest | kept | exhausted | shadowed | excluded | badBin | offMap | siteOff
  deriving DecidableEq, Repr

/-- The advice to a tester (R79). -/
inductive Advice where
  | continue | pause | stop
  deriving DecidableEq, Repr

/-- The edge of a limit or run alarm alert (R187). -/
inductive Edge where
  | enter | clear
  deriving DecidableEq, Repr

/-- The last error of a link (R174). -/
inductive LinkError where
  | none | framing | crc | overrun | length | type | timeout
  deriving DecidableEq, Repr

/-! ### Messages (R186, R195) -/

/-- An alert (R108, R128, R57, R59, R175). `bin` is 0 in a YIELD alert and in RUN_ALARM CLEAR (R193). -/
inductive Alert where
  | waferLimit (edge : Edge) (slot : Fin 64) (lot wafer : Nat) (bin : Fin 64) (threshold tested figure : Nat)
  | lotLimit (edge : Edge) (lot : Fin 16) (ident : LotId) (bin : Fin 64) (threshold tested figure : Nat)
  | runAlarm (edge : Edge) (link : Fin 12) (aliasNo : Nat) (slot bin : Fin 64)
  | linkError (link : Fin 13) (error : LinkError)
  deriving DecidableEq, Repr

/-- A completion (R183): tag, type code of the command it completes, status, and the fields after the header as bytes. -/
structure Done where
  tag    : Byte
  cmd    : Byte
  status : DoneStatus
  fields : List Byte
  deriving DecidableEq, Repr

/-- A message the part sends (R186, R195). The result fields of RSP, ACC and DON stand as the bytes after the header;
`next` of an RTA is absent for END. -/
inductive Message where
  | tda (aliasNo : Byte) (verdict : Verdict) (advice : Advice) (outcomes : List SiteOutcome)
  | cla (aliasNo : Byte) (result : Verdict) (advice : Advice) (cell : Cell) (retest : Bool)
  | rta (aliasNo : Byte) (result : Verdict) (advice : Advice) (next : Option Nat) (pairs : List (Nat × Nat))
  | rsp (tag cmd : Byte) (status : Status) (fields : List Byte)
  | acc (tag cmd : Byte) (fields : List Byte)
  | don (d : Done)
  | alr (a : Alert)
  | mch (slot : Fin 64) (chunk : Nat) (cells : List Cell)
  | mnd (slot : Fin 64) (status : EndStatus) (chunks : Nat) (digest : Word16)
  deriving DecidableEq, Repr

/-! ### Links (R165, R169, R171, R174, R177) -/

/-- The state of a link (R171); CL is RUNNING at all times. -/
inductive LinkState where
  | stopped | running | draining
  deriving DecidableEq, Repr

/-- The mode of a link (R169); CL is PACED at all times. -/
inductive Mode where
  | paced | free
  deriving DecidableEq, Repr

/-- A line rate in Mbaud (R177). -/
inductive Rate where
  | mbaud1 | mbaud4 | mbaud12
  deriving DecidableEq, Repr

/-- The receiver's state together with its assembly buffer (R165). In HUNT, `inRun` says that a stray byte of the
present run has been met (R166). The inter-byte timer runs exactly in LENGTH, BODY and CHECK (R167). -/
inductive Receiver where
  | idle
  | hunt (inRun : Bool)
  | length
  | body (len : Byte) (got : List Byte)
  | check (len : Byte) (got : List Byte) (first : Option Byte)
  deriving DecidableEq, Repr

/-- One link. `holding` is the holding queue, each frame as its body, head first (R168); `outbound` is the outbound
queue, head first, and the head is the message on the line (R177); `lineRate` is the rate at which that message was
begun, absent when nothing is being sent (R173). -/
structure Link where
  state     : LinkState
  mode      : Mode
  rate      : Rate
  receiver  : Receiver
  holding   : List (List Byte)
  outbound  : List Message
  lineRate  : Option Rate
  lastError : LinkError
  good      : Nat
  bad       : Nat
  overruns  : Nat
  discards  : Nat
  deriving DecidableEq, Repr

/-- A tester link after reset (R178). -/
def Link.testerReset : Link := ⟨.stopped, .paced, .mbaud4, .idle, [], [], none, .none, 0, 0, 0, 0⟩

/-- CL after reset (R178). -/
def Link.controlReset : Link := ⟨.running, .paced, .mbaud4, .hunt false, [], [], none, .none, 0, 0, 0, 0⟩

/-! ### Units (R138, R156) -/

/-- The kind of a Sweep Unit job (R138). -/
inductive JobKind where
  | sweep | digest
  deriving DecidableEq, Repr

/-- A Sweep Unit job (R138, R139). `start` and `count` are a DGST's fields as sent (0 for a SWEEP); `next` is the index
of the next cell to be read, `stop` the index after the last, and `register` the running digest. -/
structure Job where
  kind     : JobKind
  slot     : Fin 64
  tag      : Byte
  start    : Word16
  count    : Word16
  next     : Nat
  stop     : Nat
  register : Word16
  deriving DecidableEq, Repr

/-- The phase of an export (R156). -/
inductive Phase where
  | chunks | ending
  deriving DecidableEq, Repr

/-- The export in flight (R156). -/
structure Transfer where
  slot      : Fin 64
  tag       : Byte
  chunks    : Nat
  nextChunk : Nat
  register  : Word16
  stop      : Bool
  phase     : Phase
  deriving DecidableEq, Repr

/-! ### Faults and refusals -/

/-- Why the machine stops with a fault. The spec names no event that stops the part (every frame, command and event has
an outcome in every state), so no meaning raises a fault and the type has no constructor: safe, since nothing is cut
short. -/
inductive Fault where
  deriving DecidableEq, Repr

/-- Why a command is refused by the model. -/
inductive Refusal where
  /-- The command has no meaning in the model yet. No arm of `exec` answers with it: safe. -/
  | notModelled (mnemonic : String)
  deriving DecidableEq, Repr

/-! ### The state -/

/-- The state of the block. `pending`, `freeIndex` and `lastSent` are the model's own; every other field is named by
the spec. -/
structure State where
  /-- The model's own: the commands and events still to come, first in, first out. -/
  pending     : List Instr
  /-- The RESET pin is asserted (R178). -/
  resetPin    : Bool
  /-- The Recipe Table's records (R1). -/
  recipes     : Vector Recipe 8
  /-- The load staging; absent when empty (R8). -/
  staging     : Option Staging
  /-- The Lot Table's entries (R118). -/
  lots        : Vector Lot 16
  /-- The Map Store's slot records and cell records (R17, R18). -/
  slots       : Vector Slot 64
  /-- The Clear Unit's list, head first (R29). -/
  clearList   : List (Fin 64)
  /-- The wafer directory, in order of entry (R36). -/
  directory   : List DirectoryEntry
  /-- The pin count (R34). -/
  pinCount    : Nat
  /-- The close sequence counter (R39). -/
  closeSeq    : Nat
  /-- The Binding Table's records of TL0 to TL11 (R43, R49). -/
  testers     : Vector Tester 12
  /-- The Collation Engine's round-robin pointer (R61). -/
  pointer     : Fin 13
  /-- The Sweep Unit's queue, the running job at the head (R138). -/
  jobs        : List Job
  /-- The export in flight; absent when the Export Unit is idle (R156). -/
  transfer    : Option Transfer
  /-- The links: TL0 to TL11 at 0 to 11 and CL at 12 (R165 to R177). -/
  links       : Vector Link 13
  /-- The Command Interpreter's current command (R179). -/
  current     : Option Instr
  /-- The completion list, head first (R179). -/
  completions : List Done
  /-- The stop-all flag (R179). -/
  stopAll     : Bool
  /-- The dropped-alert mark (R179). -/
  dropped     : Bool
  /-- The model's own: how many free values the run has met (`Config.cellsReadAhead`). -/
  freeIndex   : Nat
  /-- The model's own: the link and the frame bytes of the last MESSAGE_SENT. -/
  lastSent    : Option (Fin 13 × List Byte)
  deriving DecidableEq, Repr

/-- The state after power-on or after the release of the RESET pin: the values of R5, R41, R44, R49, R61, R123, R138,
R156, R178 and R179. The cell records are not read until a clearing has rewritten them (R41), so the model lists none
of them (Assumption 4). -/
def State.reset : State where
  pending     := []
  resetPin    := false
  recipes     := Vector.replicate 8 Recipe.reset
  staging     := none
  lots        := Vector.replicate 16 Lot.free
  slots       := Vector.replicate 64 (Slot.empty .clearing [])
  clearList   := List.finRange 64
  directory   := []
  pinCount    := 0
  closeSeq    := 0
  testers     := Vector.replicate 12 Tester.reset
  pointer     := 0
  jobs        := []
  transfer    := none
  links       := (Vector.replicate 13 Link.testerReset).set 12 Link.controlReset
  current     := none
  completions := []
  stopAll     := false
  dropped     := false
  freeIndex   := 0
  lastSent    := none

end Sys2Proof.Machine
end

