-- ==== Sys2Proof/Machine/Flags.lean ====
section
/-! DEFINITION. The arithmetic of tallies, figures and limits: tally moves (R69, R73, R90, R122), yield and share (R94,
R95), the breach tests (R97 to R101), an evaluation of a slot or a lot (R102, R117), the disposition (R110, R130), the
hard-bin rollup (R15), the retest policy (R72) and the run state of a binding (R56, R57). -/

namespace Sys2Proof.Machine

/-! ### Recipe questions -/

/-- R2: the soft bin a posted or forced value names when it is defined in the recipe; absent otherwise. -/
def Recipe.binOf (r : Recipe) (s : Nat) : Option (Fin 64) :=
  if h : s < 64 then
    if s ≠ 0 ∧ r.entries[s].defined = true then some ⟨s, h⟩ else none
  else none

/-- The class of a soft bin in the recipe (R3). -/
def Recipe.classOf (r : Recipe) (b : Fin 64) : BinClass := r.entries[b].cls

/-- A bin of PASS class (R3). -/
def Recipe.passes (r : Recipe) (b : Fin 64) : Bool := r.classOf b == .pass

/-- R3, R93: a bin-ceiling test exists for the bin. -/
def Recipe.hasCeiling (r : Recipe) (b : Fin 64) : Bool :=
  b != 0 && r.entries[b].defined && r.entries[b].cls == .fail && decide (0 < r.entries[b].ceiling)

/-- R82: the cell is retest-allowed under the recipe. -/
def Recipe.retestAllowed (r : Recipe) (c : Cell) : Bool :=
  c.status == .tested && r.entries[c.bin].cls == .fail && r.entries[c.bin].eligible &&
    decide (c.attempts < r.scalars.attemptLimit)

/-- R72: the kept bin of a retest, from the old bin `c` and the posted bin `s`. -/
def Recipe.keptBin (r : Recipe) (c s : Fin 64) : Fin 64 :=
  match r.scalars.policy with
  | .last => s
  | .best => if r.entries[c].rank < r.entries[s].rank then c else s
  | .stickyPass => if r.passes c then c else s

/-- R4: the state a committed load sets. -/
def recipeStateOf (entries : Vector BinEntry 64) : RecipeState :=
  if entries.toList.any (fun e => e.defined && e.cls == .pass) then .valid else .invalid

/-! ### Tally moves -/

/-- A first test or force into bin `s` (R69, R87): T + 1, count of `s` + 1, and P + 1 when `s` is PASS. -/
def Tallies.add (r : Recipe) (s : Fin 64) (t : Tallies) : Tallies :=
  { tested := t.tested + 1
    passed := t.passed + (r.passes s).toNat
    counts := t.counts.set s (t.counts[s] + 1) }

/-- The removal of a tested or forced cell of bin `c` (R90): T − 1, count of `c` − 1, and P − 1 when `c` is PASS. -/
def Tallies.remove (r : Recipe) (c : Fin 64) (t : Tallies) : Tallies :=
  { tested := t.tested - 1
    passed := t.passed - (r.passes c).toNat
    counts := t.counts.set c (t.counts[c] - 1) }

/-- A change of a cell's bin from `c` to `k` (R73): one count falls, one rises, T stays, and P follows the classes. -/
def Tallies.move (r : Recipe) (c k : Fin 64) (t : Tallies) : Tallies :=
  let counts := t.counts.set c (t.counts[c] - 1)
  { tested := t.tested
    passed := t.passed + (r.passes k).toNat - (r.passes c).toNat
    counts := counts.set k (counts[k] + 1) }

/-- The sum of two tallies, place by place (R121, R122). -/
def Tallies.plus (a b : Tallies) : Tallies :=
  { tested := a.tested + b.tested
    passed := a.passed + b.passed
    counts := Vector.ofFn fun i => a.counts[i] + b.counts[i] }

/-- The sum of the soft-bin counts (R20). -/
def Tallies.total (t : Tallies) : Nat := t.counts.toList.sum

/-! ### Reported figures -/

/-- A count as a part of the tested count in basis points, rounded down; 0 when nothing is tested (R94, R95). -/
def basisPoints (count tested : Nat) : Nat := if tested = 0 then 0 else 10000 * count / tested

/-- The yield (R94, R95). -/
def Tallies.yield (t : Tallies) : Nat := basisPoints t.passed t.tested

/-- The share of a soft bin (R94, R95). -/
def Tallies.share (t : Tallies) (b : Fin 64) : Nat := basisPoints t.counts[b] t.tested

/-- The no-data mark (R95). -/
def Tallies.noData (t : Tallies) : Bool := t.tested == 0

/-- R15: the rollup of one hard bin: the sum of the counts of the defined soft bins that name it. -/
def rollup (r : Recipe) (t : Tallies) (hard : Nat) : Nat :=
  ((List.finRange 64).map fun (b : Fin 64) =>
    if b ≠ 0 ∧ r.entries[b].defined = true ∧ r.entries[b].hardBin = hard then t.counts[b] else 0).sum

/-- The eight rollups in order of hard bin (R16). -/
def rollups (r : Recipe) (t : Tallies) : List Nat := (List.range 8).map fun h => rollup r t (h + 1)

/-! ### Breach tests -/

/-- R97, R98, R100: the bin-ceiling test of a ceiling, a hysteresis and a minimum sample on a tested count and a
count. The products are exact (R96). -/
def ceilingTest (ceiling hysteresis minSample tested count : Nat) : Breach → Breach
  | .clear => if minSample ≤ tested ∧ ceiling * tested < 10000 * count then .breach else .clear
  | .breach => if 10000 * count ≤ (ceiling - hysteresis) * tested then .clear else .breach

/-- R99, R100: the yield test of a floor, a hysteresis and a minimum sample on a tested count and a pass count. -/
def yieldTest (floor hysteresis minSample tested passed : Nat) : Breach → Breach
  | .clear => if minSample ≤ tested ∧ 10000 * passed < floor * tested then .breach else .clear
  | .breach => if min (floor + hysteresis) 10000 * tested ≤ 10000 * passed then .clear else .breach

/-- The state of one bin after an evaluation under recipe `r` (R97); a bin with no ceiling test is held. -/
def evaluateBin (r : Recipe) (t : Tallies) (l : LimitStates) (b : Fin 64) : Breach :=
  if r.hasCeiling b then
    ceilingTest r.entries[b].ceiling r.scalars.hysteresis r.scalars.minSample t.tested t.counts[b] l.bins[b]
  else l.bins[b]

/-- The yield state after an evaluation (R99); with a floor of 0 there is no yield state, and it is held. -/
def evaluateYield (r : Recipe) (floor : Nat) (t : Tallies) (l : LimitStates) : Breach :=
  if 0 < floor then
    yieldTest floor r.scalars.hysteresis r.scalars.minSample t.tested t.passed l.yield
  else l.yield

/-- The edge of a change from one limit state to another; absent when the state is held (R102). -/
def edgeOf : Breach → Breach → Option Edge
  | .clear, .breach => some .enter
  | .breach, .clear => some .clear
  | _, _ => none

/-- One change of a limit state: the edge, the soft bin (0 for the yield), the threshold as held in the recipe, and the
figure formed from the tallies read (R108, R128). -/
structure LimitChange where
  edge      : Edge
  bin       : Fin 64
  threshold : Nat
  tested    : Nat
  figure    : Nat
  deriving DecidableEq, Repr

/-- The change of one bin's state in an evaluation, if any. -/
def binChange (r : Recipe) (t : Tallies) (l : LimitStates) (b : Fin 64) : Option LimitChange :=
  (edgeOf l.bins[b] (evaluateBin r t l b)).map fun e => ⟨e, b, r.entries[b].ceiling, t.tested, t.share b⟩

/-- The change of the yield state in an evaluation, if any. -/
def yieldChange (r : Recipe) (floor : Nat) (t : Tallies) (l : LimitStates) : Option LimitChange :=
  (edgeOf l.yield (evaluateYield r floor t l)).map fun e => ⟨e, 0, floor, t.tested, t.yield⟩

/-- The changes of one evaluation in the order of its tests: the bins ascending, 1 to 63, then the yield (R102). -/
def limitChanges (r : Recipe) (floor : Nat) (t : Tallies) (l : LimitStates) : List LimitChange :=
  ((List.finRange 64).filter (fun b => b != 0)).filterMap (binChange r t l) ++ (yieldChange r floor t l).toList

/-- The limit states after an evaluation (R102, R107): every entry into a breach sets the breach-seen mark. -/
def evaluate (r : Recipe) (floor : Nat) (t : Tallies) (l : LimitStates) : LimitStates :=
  { bins  := Vector.ofFn fun b => if b = 0 then l.bins[b] else evaluateBin r t l b
    yield := evaluateYield r floor t l
    seen  := l.seen || (limitChanges r floor t l).any fun c => c.edge == .enter }

/-- R109: a subject has an active breach. -/
def LimitStates.active (l : LimitStates) : Bool :=
  l.yield == .breach || l.bins.toList.any (fun b => b == .breach)

/-- The verdict from a breach-seen mark or, for a lot, from the mark and the member dispositions (R110, R130). -/
def dispositionOf (hold : Bool) : Disposition := if hold then .hold else .accept

/-! ### Run state (R56, R57) -/

/-- R56, R57: one counted site result, posting bin `s` under recipe `r`, into an alias entry's run state. -/
def runStep (r : Recipe) (e : Binding) (s : Fin 64) : Binding :=
  let limit := r.scalars.runLimit
  if limit = 0 then e
  else if r.passes s then { e with runBin := none, runLength := 0 }
  else
    let length := if e.runBin = some s then min (e.runLength + 1) limit else 1
    { e with runBin := some s, runLength := length, alarm := e.alarm || decide (limit ≤ length) }

/-- R56: the outcomes that count toward the run state, and that make a report TAKEN (R77). -/
def SiteOutcome.taken : SiteOutcome → Bool
  | .appliedNew | .appliedRetest | .kept => true
  | .exhausted | .shadowed | .excluded | .badBin | .offMap | .siteOff => false

/-! ### Advice (R79) -/

/-- R79 for a frame that resolved to a slot: the stop-all flag, the entry's run alarm, and the slot's breaches under
breach advice PAUSE. -/
def adviceOf (stopAll alarm : Bool) (r : Recipe) (l : LimitStates) : Advice :=
  if stopAll then .stop
  else if alarm then .pause
  else if r.scalars.advice = .pause ∧ l.active = true then .pause
  else .continue

end Sys2Proof.Machine
end

