-- ==== Sys2Proof/WellFormed.lean ====
section
/-! DEFINITION. Which terms of `Instr` a frame can spell: the list operands have the lengths that the body lengths of
R194 give them, and the rows that share one command type divide its code byte among them. -/

namespace Sys2Proof

/-- A lot identifier on the wire is 12 bytes (R193). -/
def LotId.wf (ident : LotId) : Bool := ident.length == 12

/-- The operands of a command fit the body layout of its type (R194): identifiers of 12 bytes, 31 and 32 soft-bin
entries in the two LDRC parts, as many STMP entries as the count byte says, and no more TDR result bytes than a body of
200 holds. `ldrcPart1` is never part 2 and `ldrcPart2` never part 1, `rlhdWafer` is never kind LOT, and `lctlStart`
is action 0 or no action of R173. -/
def Instr.wf : Instr → Bool
  | .tdr _ _ _ _ _ results => results.length ≤ 193
  | .ldrcPart1 _ _ part _ entries => entries.length == 31 && part != 2
  | .ldrcPart2 _ _ part entries => entries.length == 32 && part != 1
  | .oplt _ ident _ => ident.wf
  | .cllt _ ident => ident.wf
  | .rtlt _ ident => ident.wf
  | .lsum _ ident _ _ _ => ident.wf
  | .opwf _ ident _ _ _ _ _ => ident.wf
  | .fndw _ ident _ => ident.wf
  | .stmp _ _ count entries => entries.length == count.toNat && entries.length ≤ 49
  | .rlhdWafer _ kind _ ident => ident.wf && kind != 2
  | .rlhdLot _ _ ident => ident.wf
  | .lctlStart _ _ action _ => action.toNat == 0 || 5 < action.toNat
  | .powerOn | .resetPinAssert | .resetPinRelease | .byteReceived _ _ | .interByteTimeout _ | .messageSent _
  | .frameDiscard _ | .clq _ _ _ _ | .rtp _ _ _ _ | .commandTake | .rdrc _ _ _ | .clwf _ _ | .rpwf _ _ | .rtwf _ _
  | .pins _ _ | .upin _ _ | .wsum _ _ _ _ | .rdcl _ _ _ _ _ | .frcl _ _ _ _ _ | .ufcl _ _ _ _ | .excl _ _ _ _ _ _
  | .incl _ _ _ _ _ _ | .xprt _ _ | .xstp _ | .dgst _ _ _ _ | .bind _ _ _ _ | .ubnd _ _ _ | .rsmb _ _ _
  | .lctlStopDrain _ _ _ | .lctlStopForce _ _ _ | .lctlRestart _ _ _ | .lctlSetMode _ _ _ | .lctlSetRate _ _ _
  | .lsta _ _ | .asta _ _ _ | .stpa _ | .rsma _ | .clra _ | .clearingEnd | .sweepEnd | .digestEnd | .mch | .mnd
  | .don => true

/-- The commands a CL frame can carry (R194, second table). -/
def Instr.isCommand : Instr → Bool
  | .ldrcPart1 .. | .ldrcPart2 .. | .rdrc .. | .oplt .. | .cllt .. | .rtlt .. | .lsum .. | .opwf .. | .clwf ..
  | .rpwf .. | .rtwf .. | .pins .. | .upin .. | .fndw .. | .wsum .. | .rdcl .. | .frcl .. | .ufcl .. | .excl ..
  | .incl .. | .xprt .. | .xstp .. | .dgst .. | .bind .. | .ubnd .. | .rsmb .. | .stmp .. | .rlhdWafer ..
  | .rlhdLot .. | .lctlStart .. | .lctlStopDrain .. | .lctlStopForce .. | .lctlRestart .. | .lctlSetMode ..
  | .lctlSetRate .. | .lsta .. | .asta .. | .stpa .. | .rsma .. | .clra .. => true
  | .powerOn | .resetPinAssert | .resetPinRelease | .byteReceived .. | .interByteTimeout .. | .messageSent ..
  | .frameDiscard .. | .tdr .. | .clq .. | .rtp .. | .commandTake | .clearingEnd | .sweepEnd | .digestEnd | .mch
  | .mnd | .don => false

/-- The commands the Command Interpreter answers itself and does not hand to the engine (R61, R182): LCTL, LSTA, ASTA,
STPA and RSMA. -/
def Instr.selfServed : Instr → Bool
  | .lctlStart .. | .lctlStopDrain .. | .lctlStopForce .. | .lctlRestart .. | .lctlSetMode .. | .lctlSetRate ..
  | .lsta .. | .asta .. | .stpa .. | .rsma .. => true
  | .powerOn | .resetPinAssert | .resetPinRelease | .byteReceived .. | .interByteTimeout .. | .messageSent ..
  | .frameDiscard .. | .tdr .. | .clq .. | .rtp .. | .commandTake | .ldrcPart1 .. | .ldrcPart2 .. | .rdrc ..
  | .oplt .. | .cllt .. | .rtlt .. | .lsum .. | .opwf .. | .clwf .. | .rpwf .. | .rtwf .. | .pins .. | .upin ..
  | .fndw .. | .wsum .. | .rdcl .. | .frcl .. | .ufcl .. | .excl .. | .incl .. | .xprt .. | .xstp .. | .dgst ..
  | .bind .. | .ubnd .. | .rsmb .. | .stmp .. | .rlhdWafer .. | .rlhdLot .. | .clra .. | .clearingEnd | .sweepEnd
  | .digestEnd | .mch | .mnd | .don => false

/-- The tester link frames a well-formed frame can carry: TDR, CLQ and RTP (R65). -/
def Instr.isReport : Instr → Bool
  | .tdr .. | .clq .. | .rtp .. => true
  | .powerOn | .resetPinAssert | .resetPinRelease | .byteReceived .. | .interByteTimeout .. | .messageSent ..
  | .frameDiscard .. | .commandTake | .ldrcPart1 .. | .ldrcPart2 .. | .rdrc .. | .oplt .. | .cllt .. | .rtlt ..
  | .lsum .. | .opwf .. | .clwf .. | .rpwf .. | .rtwf .. | .pins .. | .upin .. | .fndw .. | .wsum .. | .rdcl ..
  | .frcl .. | .ufcl .. | .excl .. | .incl .. | .xprt .. | .xstp .. | .dgst .. | .bind .. | .ubnd .. | .rsmb ..
  | .stmp .. | .rlhdWafer .. | .rlhdLot .. | .lctlStart .. | .lctlStopDrain .. | .lctlStopForce ..
  | .lctlRestart .. | .lctlSetMode .. | .lctlSetRate .. | .lsta .. | .asta .. | .stpa .. | .rsma .. | .clra ..
  | .clearingEnd | .sweepEnd | .digestEnd | .mch | .mnd | .don => false

end Sys2Proof
end

