-- ==== Sys2Proof/Decode.lean ====
section
/-! DEFINITION. Reading and writing the bodies of inbound frames (R193, R194): the type byte names the row, the length
is judged against the type, and the fields follow in the order of the layout, most significant byte first. The decoder
is total: a body is a command, or its type is not one the link carries, or its length is wrong for its type (R65,
R170, R180). The opcode table gives no row any bits, so `decodeTableWord` answers `none` for every word. -/

namespace Sys2Proof

/-- The command that a word spells by the bits of spec/opcode_table.json. No row of the table has bits (its rows are
events and frames of many bytes), so no word spells one. Assumption 2. -/
def decodeTableWord (_nbits _w : Nat) : Option Instr := none

/-- What the examination of a frame at its take finds (R65, R170). -/
inductive Decoded where
  /-- The body is of a known type and of that type's length. -/
  | command (i : Instr)
  /-- The link carries no such type: a TYPE error. -/
  | unknownType
  /-- The length is wrong for the type: a LENGTH error. -/
  | wrongLength
  deriving DecidableEq, Repr

/-- A two-byte field, most significant byte first (spec/00, byte order on the wire). -/
def word16 (hi lo : Byte) : Word16 := hi ++ lo

/-- The most significant byte of a two-byte field. -/
def hiByte (w : Word16) : Byte := w.extractLsb' 8 8

/-- The least significant byte of a two-byte field. -/
def loByte (w : Word16) : Byte := w.extractLsb' 0 8

/-- The two bytes of a two-byte field as sent. -/
def word16Bytes (w : Word16) : List Byte := [hiByte w, loByte w]

/-- A yes/no byte of a command: 0 is no and any other value is read as yes (R193). -/
def yesByte (b : Byte) : Bool := b != 0

/-- Reads the five-byte recipe entries of an LDRC body (R194). -/
def readEntries : List Byte → List EntryWire
  | flags :: hard :: rank :: ch :: cl :: rest => ⟨flags, hard, rank, word16 ch cl⟩ :: readEntries rest
  | _ => []

/-- The five bytes of one recipe entry (R194). -/
def EntryWire.bytes (e : EntryWire) : List Byte :=
  [e.flags, e.hardBin, e.rank, hiByte e.ceiling, loByte e.ceiling]

/-- Reads the four-byte site entries of an STMP body (R194). -/
def readSites : List Byte → List SiteWire
  | site :: enabled :: dx :: dy :: rest => ⟨site, enabled, dx, dy⟩ :: readSites rest
  | _ => []

/-- The four bytes of one STMP entry (R194). -/
def SiteWire.bytes (e : SiteWire) : List Byte := [e.site, e.enabled, e.dx, e.dy]

/-- The twelve bytes of the recipe scalars in LDRC and RDRC part 1 (R194). -/
def ScalarsWire.bytes (w : ScalarsWire) : List Byte :=
  [w.policy, w.attemptLimit] ++ word16Bytes w.waferFloor ++ word16Bytes w.lotFloor ++ word16Bytes w.minSample ++
    word16Bytes w.hysteresis ++ [w.runLimit, w.advice]

/-- LDRC after its type byte: 171 bytes in all is a part 1 body and 164 a part 2 body. A part byte of 1 or 2 on the
other length is a LENGTH error, and any other part byte on either length is handed on (R194). -/
def decodeLdrc : List Byte → Decoded
  | tag :: recipe :: part :: rest =>
    if rest.length = 167 ∧ part ≠ 2 then
      match rest with
      | policy :: limit :: wfh :: wfl :: lfh :: lfl :: nh :: nl :: hh :: hl :: run :: advice :: entries =>
        .command (.ldrcPart1 tag recipe part
          ⟨policy, limit, word16 wfh wfl, word16 lfh lfl, word16 nh nl, word16 hh hl, run, advice⟩
          (readEntries entries))
      | _ => .wrongLength
    else if rest.length = 160 ∧ part ≠ 1 then .command (.ldrcPart2 tag recipe part (readEntries rest))
    else .wrongLength
  | _ => .wrongLength

/-- STMP after its type byte: four bytes and then exactly four for each announced entry (R194). -/
def decodeStmp : List Byte → Decoded
  | tag :: link :: count :: rest =>
    if rest.length = 4 * count.toNat then .command (.stmp tag link count (readSites rest)) else .wrongLength
  | _ => .wrongLength

/-- RLHD after its type byte: kind 2 is the LOT form, and every other kind byte stands in the WAFER row, which refuses
all but 1 (R194). -/
def decodeRlhd : List Byte → Decoded
  | tag :: kind :: slot :: ident =>
    if ident.length = 12 then
      if kind = 2 then .command (.rlhdLot tag slot ident) else .command (.rlhdWafer tag kind slot ident)
    else .wrongLength
  | _ => .wrongLength

/-- LCTL after its type byte: the action byte chooses the row, and an action that names none of the six stands in the
start row, which refuses it (R172, R194). -/
def decodeLctl : List Byte → Decoded
  | [tag, link, action, value] =>
    match action.toNat with
    | 1 => .command (.lctlStopDrain tag link value)
    | 2 => .command (.lctlStopForce tag link value)
    | 3 => .command (.lctlRestart tag link value)
    | 4 => .command (.lctlSetMode tag link value)
    | 5 => .command (.lctlSetRate tag link value)
    | _ => .command (.lctlStart tag link action value)
  | _ => .wrongLength

/-- A body of `type, tag, identifier` and then the bytes `k` reads (R194). -/
def decodeIdent (k : Byte → LotId → List Byte → Option Instr) : List Byte → Decoded
  | tag :: rest =>
    if rest.length < 12 then .wrongLength
    else match k tag (rest.take 12) (rest.drop 12) with
      | some i => .command i
      | none => .wrongLength
  | [] => .wrongLength

/-- A body of `type, tag, slot`, or `type, tag, link` (R194). -/
def decodeSlot (k : Byte → Byte → Instr) : List Byte → Decoded
  | [tag, slot] => .command (k tag slot)
  | _ => .wrongLength

/-- A body of `type, tag` (R194). -/
def decodeBare (k : Byte → Instr) : List Byte → Decoded
  | [tag] => .command (k tag)
  | _ => .wrongLength

/-- The examination of a CL frame at its take (R170, R180, R194): type and length first, then the fields. -/
def decodeCommand : List Byte → Decoded
  | [] => .unknownType
  | type :: rest =>
    match type.toNat with
    | 0x10 => decodeLdrc rest
    | 0x11 => match rest with
      | [tag, recipe, part] => .command (.rdrc tag recipe part)
      | _ => .wrongLength
    | 0x12 => decodeIdent (fun tag ident more => match more with
      | [recipe] => some (.oplt tag ident recipe)
      | _ => none) rest
    | 0x13 => decodeIdent (fun tag ident more => match more with
      | [] => some (.cllt tag ident)
      | _ => none) rest
    | 0x14 => decodeIdent (fun tag ident more => match more with
      | [] => some (.rtlt tag ident)
      | _ => none) rest
    | 0x15 => decodeIdent (fun tag ident more => match more with
      | [first, last, position] => some (.lsum tag ident first last position)
      | _ => none) rest
    | 0x16 => decodeIdent (fun tag ident more => match more with
      | [wafer, rh, rl, ch, cl, round, hold] =>
        some (.opwf tag ident wafer (word16 rh rl) (word16 ch cl) round hold)
      | _ => none) rest
    | 0x17 => decodeSlot .clwf rest
    | 0x18 => decodeSlot .rpwf rest
    | 0x19 => decodeSlot .rtwf rest
    | 0x1A => decodeSlot .pins rest
    | 0x1B => decodeSlot .upin rest
    | 0x1C => decodeSlot .xprt rest
    | 0x1D => decodeIdent (fun tag ident more => match more with
      | [wafer] => some (.fndw tag ident wafer)
      | _ => none) rest
    | 0x1E => match rest with
      | [tag, slot, first, last] => .command (.wsum tag slot first last)
      | _ => .wrongLength
    | 0x1F => match rest with
      | [tag, slot, y, x, count] => .command (.rdcl tag slot y x count)
      | _ => .wrongLength
    | 0x20 => match rest with
      | [tag, slot, x, y, bin] => .command (.frcl tag slot x y bin)
      | _ => .wrongLength
    | 0x21 => match rest with
      | [tag, slot, x, y] => .command (.ufcl tag slot x y)
      | _ => .wrongLength
    | 0x22 => match rest with
      | [tag, slot, x1, y1, x2, y2] => .command (.excl tag slot x1 y1 x2 y2)
      | _ => .wrongLength
    | 0x23 => match rest with
      | [tag, slot, x1, y1, x2, y2] => .command (.incl tag slot x1 y1 x2 y2)
      | _ => .wrongLength
    | 0x24 => decodeBare .xstp rest
    | 0x25 => decodeBare .stpa rest
    | 0x26 => decodeBare .rsma rest
    | 0x27 => decodeBare .clra rest
    | 0x28 => match rest with
      | [tag, slot, sh, sl, ch, cl] => .command (.dgst tag slot (word16 sh sl) (word16 ch cl))
      | _ => .wrongLength
    | 0x29 => match rest with
      | [tag, link, aliasNo, slot] => .command (.bind tag link aliasNo slot)
      | _ => .wrongLength
    | 0x2A => match rest with
      | [tag, link, aliasNo] => .command (.ubnd tag link aliasNo)
      | _ => .wrongLength
    | 0x2B => match rest with
      | [tag, link, aliasNo] => .command (.rsmb tag link aliasNo)
      | _ => .wrongLength
    | 0x2C => decodeStmp rest
    | 0x2D => decodeRlhd rest
    | 0x2E => decodeLctl rest
    | 0x2F => decodeSlot .lsta rest
    | 0x30 => match rest with
      | [tag, selector, first] => .command (.asta tag selector first)
      | _ => .wrongLength
    | _ => .unknownType

/-- The examination of a tester frame at its take (R65, R194). A TDR body of at least the fixed part is handed on
whatever its count says (R67); CLQ and RTP have one length each. -/
def decodeReport (link : Fin 12) : List Byte → Decoded
  | [] => .unknownType
  | type :: rest =>
    match type.toNat with
    | 0x01 => match rest with
      | aliasNo :: xh :: xl :: yh :: yl :: count :: results =>
        .command (.tdr link aliasNo (word16 xh xl) (word16 yh yl) count results)
      | _ => .wrongLength
    | 0x02 => match rest with
      | [aliasNo, x, y] => .command (.clq link aliasNo x y)
      | _ => .wrongLength
    | 0x03 => match rest with
      | [aliasNo, sh, sl, maxCount] => .command (.rtp link aliasNo (word16 sh sl) maxCount)
      | _ => .wrongLength
    | _ => .unknownType

/-- The type byte of an inbound frame (R194); 0 for the rows that are no frame. -/
def Instr.code : Instr → Byte
  | .tdr .. => 0x01 | .clq .. => 0x02 | .rtp .. => 0x03
  | .ldrcPart1 .. => 0x10 | .ldrcPart2 .. => 0x10 | .rdrc .. => 0x11 | .oplt .. => 0x12 | .cllt .. => 0x13
  | .rtlt .. => 0x14 | .lsum .. => 0x15 | .opwf .. => 0x16 | .clwf .. => 0x17 | .rpwf .. => 0x18 | .rtwf .. => 0x19
  | .pins .. => 0x1A | .upin .. => 0x1B | .xprt .. => 0x1C | .fndw .. => 0x1D | .wsum .. => 0x1E | .rdcl .. => 0x1F
  | .frcl .. => 0x20 | .ufcl .. => 0x21 | .excl .. => 0x22 | .incl .. => 0x23 | .xstp .. => 0x24 | .stpa .. => 0x25
  | .rsma .. => 0x26 | .clra .. => 0x27 | .dgst .. => 0x28 | .bind .. => 0x29 | .ubnd .. => 0x2A | .rsmb .. => 0x2B
  | .stmp .. => 0x2C | .rlhdWafer .. => 0x2D | .rlhdLot .. => 0x2D | .lctlStart .. => 0x2E
  | .lctlStopDrain .. => 0x2E | .lctlStopForce .. => 0x2E | .lctlRestart .. => 0x2E | .lctlSetMode .. => 0x2E
  | .lctlSetRate .. => 0x2E | .lsta .. => 0x2F | .asta .. => 0x30
  | .powerOn | .resetPinAssert | .resetPinRelease | .byteReceived .. | .interByteTimeout .. | .messageSent ..
  | .frameDiscard .. | .commandTake | .clearingEnd | .sweepEnd | .digestEnd | .mch | .mnd | .don => 0

/-- The payload of an inbound frame after its type byte (R194). -/
def Instr.payload : Instr → List Byte
  | .tdr _ a x0 y0 count results => [a] ++ word16Bytes x0 ++ word16Bytes y0 ++ [count] ++ results
  | .clq _ a x y => [a, x, y]
  | .rtp _ a start maxCount => [a] ++ word16Bytes start ++ [maxCount]
  | .ldrcPart1 tag recipe part scalars entries =>
    [tag, recipe, part] ++ scalars.bytes ++ entries.flatMap EntryWire.bytes
  | .ldrcPart2 tag recipe part entries => [tag, recipe, part] ++ entries.flatMap EntryWire.bytes
  | .rdrc tag recipe part => [tag, recipe, part]
  | .oplt tag ident recipe => [tag] ++ ident ++ [recipe]
  | .cllt tag ident => [tag] ++ ident
  | .rtlt tag ident => [tag] ++ ident
  | .lsum tag ident first last position => [tag] ++ ident ++ [first, last, position]
  | .opwf tag ident wafer rows cols round hold =>
    [tag] ++ ident ++ [wafer] ++ word16Bytes rows ++ word16Bytes cols ++ [round, hold]
  | .clwf tag slot => [tag, slot]
  | .rpwf tag slot => [tag, slot]
  | .rtwf tag slot => [tag, slot]
  | .pins tag slot => [tag, slot]
  | .upin tag slot => [tag, slot]
  | .fndw tag ident wafer => [tag] ++ ident ++ [wafer]
  | .wsum tag slot first last => [tag, slot, first, last]
  | .rdcl tag slot y x count => [tag, slot, y, x, count]
  | .frcl tag slot x y bin => [tag, slot, x, y, bin]
  | .ufcl tag slot x y => [tag, slot, x, y]
  | .excl tag slot x1 y1 x2 y2 => [tag, slot, x1, y1, x2, y2]
  | .incl tag slot x1 y1 x2 y2 => [tag, slot, x1, y1, x2, y2]
  | .xprt tag slot => [tag, slot]
  | .xstp tag => [tag]
  | .dgst tag slot start count => [tag, slot] ++ word16Bytes start ++ word16Bytes count
  | .bind tag link a slot => [tag, link, a, slot]
  | .ubnd tag link a => [tag, link, a]
  | .rsmb tag link a => [tag, link, a]
  | .stmp tag link count entries => [tag, link, count] ++ entries.flatMap SiteWire.bytes
  | .rlhdWafer tag kind slot ident => [tag, kind, slot] ++ ident
  | .rlhdLot tag slot ident => [tag, 2, slot] ++ ident
  | .lctlStart tag link action value => [tag, link, action, value]
  | .lctlStopDrain tag link value => [tag, link, 1, value]
  | .lctlStopForce tag link value => [tag, link, 2, value]
  | .lctlRestart tag link value => [tag, link, 3, value]
  | .lctlSetMode tag link value => [tag, link, 4, value]
  | .lctlSetRate tag link value => [tag, link, 5, value]
  | .lsta tag link => [tag, link]
  | .asta tag selector first => [tag, selector, first]
  | .stpa tag => [tag]
  | .rsma tag => [tag]
  | .clra tag => [tag]
  | .powerOn | .resetPinAssert | .resetPinRelease | .byteReceived .. | .interByteTimeout .. | .messageSent ..
  | .frameDiscard .. | .commandTake | .clearingEnd | .sweepEnd | .digestEnd | .mch | .mnd | .don => []

/-- The body of the frame that carries a command or a report: the encoder (R194). -/
def Instr.body (i : Instr) : List Byte := i.code :: i.payload

end Sys2Proof
end

