-- ==== Sys2Proof/Machine/Formats.lean ====
section
/-! DEFINITION. The wire formats of what the part sends: code values (R196), field widths (R193), the CRC-16 (R151),
the cell encoding (R152), the body of every message (R194, R195) and the frame around it (R163, R164). -/

namespace Sys2Proof.Machine

/-! ### Codes (R196) -/

def Status.code : Status → Byte
  | .ok => 0 | .badField => 1 | .range => 2 | .wrongState => 3 | .busy => 4 | .noLot => 5 | .lotClosed => 6
  | .duplicate => 7 | .lotFull => 8 | .lotTableFull => 9 | .noSlot => 10 | .badRecipe => 11 | .inUse => 12
  | .notStaged => 13 | .notInUse => 14 | .pinFull => 15 | .excludedCell => 16 | .badBin => 17 | .notForced => 18
  | .notRunning => 19 | .membersActive => 20

def DoneStatus.code : DoneStatus → Byte
  | .ok => 0 | .stopped => 1 | .cancelled => 2

def EndStatus.code : EndStatus → Byte
  | .complete => 1 | .stopped => 2

def Verdict.code : Verdict → Byte
  | .ok => 0 | .noneTaken => 1 | .malformed => 2 | .unbound => 3 | .notOpen => 4 | .offMap => 8

def SiteOutcome.code : SiteOutcome → Byte
  | .appliedNew => 1 | .appliedRetest => 2 | .kept => 3 | .exhausted => 4 | .shadowed => 5 | .excluded => 6
  | .badBin => 7 | .offMap => 8 | .siteOff => 9

def Advice.code : Advice → Byte
  | .continue => 0 | .pause => 1 | .stop => 2

def Edge.code : Edge → Byte
  | .enter => 1 | .clear => 2

def LinkError.code : LinkError → Byte
  | .none => 0 | .framing => 1 | .crc => 2 | .overrun => 3 | .length => 4 | .type => 5 | .timeout => 6

def SlotState.code : SlotState → Byte
  | .free => 0 | .clearing => 1 | .opened => 2 | .closing => 3 | .closed => 4 | .exporting => 5

def LotState.code : LotState → Byte
  | .free => 0 | .opened => 1 | .closed => 2 | .retiring => 3

def RecipeState.code : RecipeState → Byte
  | .empty => 0 | .invalid => 1 | .valid => 2

def Disposition.code : Disposition → Byte
  | .none => 0 | .accept => 1 | .hold => 2 | .released => 3

def LinkState.code : LinkState → Byte
  | .stopped => 0 | .running => 1 | .draining => 2

/-- PACED 0, FREE 1 (R194, the LCTL actions). -/
def Mode.code : Mode → Byte
  | .paced => 0 | .free => 1

/-- The value byte of LCTL set rate (R194). -/
def Rate.code : Rate → Byte
  | .mbaud1 => 1 | .mbaud4 => 4 | .mbaud12 => 12

def Receiver.code : Receiver → Byte
  | .hunt _ => 0 | .length => 1 | .body _ _ => 2 | .check _ _ _ => 3 | .idle => 4

/-- The wire code of a retest policy (R1). -/
def RetestPolicy.code : RetestPolicy → Byte
  | .last => 0 | .best => 1 | .stickyPass => 2

/-- The wire code of the breach advice (R1). -/
def BreachAdvice.code : BreachAdvice → Byte
  | .continue => 0 | .pause => 1

/-- The status code of a cell (R152). -/
def CellStatus.code : CellStatus → Nat
  | .untested => 0 | .tested => 1 | .forced => 2 | .excluded => 3

/-! ### Field widths (R193) -/

/-- A one-byte number. -/
def be1 (n : Nat) : List Byte := [BitVec.ofNat 8 n]

/-- A two-byte number, most significant byte first. -/
def be2 (n : Nat) : List Byte := [BitVec.ofNat 8 (n / 256), BitVec.ofNat 8 n]

/-- A three-byte number, most significant byte first. -/
def be3 (n : Nat) : List Byte := BitVec.ofNat 8 (n / 65536) :: be2 n

/-- A four-byte number, most significant byte first. -/
def be4 (n : Nat) : List Byte := BitVec.ofNat 8 (n / 16777216) :: be3 n

/-- A slot field: 0xFF when absent. -/
def slotByte : Option (Fin 64) → Byte
  | some i => BitVec.ofNat 8 i.val
  | none => 0xFF

/-- A final yield field: 0xFFFF when absent. -/
def finalYieldBytes : Option Nat → List Byte
  | some y => be2 y
  | none => [0xFF, 0xFF]

/-- Up to eight yes/no fields in one byte, the first in the most significant bit, unused bits 0. -/
def flagByte (flags : List Bool) : Byte :=
  BitVec.ofNat 8 ((List.range 8).foldl (fun n k => 2 * n + (flags.getD k false).toNat) 0)

/-- The flag bytes at the end of an RSP, ACC or DON body. -/
def flagBytes (flags : List Bool) : List Byte :=
  (List.range ((flags.length + 7) / 8)).map fun k => flagByte ((flags.drop (8 * k)).take 8)

/-- A set of soft bins in eight bytes: bit 7 of byte k is bin 8k and bit 0 is bin 8k + 7; bin 0 is never set. -/
def binSetBytes (bins : Vector Breach 64) : List Byte :=
  (List.range 8).map fun k => flagByte ((List.range 8).map fun j =>
    8 * k + j != 0 && bins.toList.getD (8 * k + j) .clear == .breach)

/-! ### The CRC-16 (R151) and the cell encoding (R152) -/

/-- One bit into the register: shift, and combine with 0x1021 when the bit and the register's top bit differed. -/
def crcBit (reg : Word16) (b : Bool) : Word16 :=
  if reg.msb != b then (reg <<< 1) ^^^ 0x1021 else reg <<< 1

/-- One byte into the register, most significant bit first. -/
def crcByte (reg : Word16) (b : Byte) : Word16 :=
  [7, 6, 5, 4, 3, 2, 1, 0].foldl (fun r k => crcBit r (b.getLsbD k)) reg

/-- The register after a sequence of bytes. -/
def crcFrom (reg : Word16) (bytes : List Byte) : Word16 := bytes.foldl crcByte reg

/-- The digest of a sequence of bytes: the register from 0xFFFF. -/
def crc16 (bytes : List Byte) : Word16 := crcFrom 0xFFFF bytes

/-- The two bytes of a cell: status code × 16 + attempts, then the soft bin. -/
def Cell.encoding (c : Cell) : List Byte := be1 (c.status.code * 16 + c.attempts) ++ be1 c.bin.val

/-- The three bytes of a cell in an RDCL answer (R193): the link of the last source, or 15 when absent, is spread over
the top bits of the first two bytes, and the site is the third. -/
def Cell.record (c : Cell) : List Byte :=
  let k := match c.source with | some src => src.link.val | none => 15
  let site := match c.source with | some src => src.site.val | none => 0
  be1 (k / 4 * 64 + (c.status.code * 16 + c.attempts)) ++ be1 (k % 4 * 64 + c.bin.val) ++ be1 site

/-- A recipe entry in five bytes (R194). -/
def BinEntry.bytes (e : BinEntry) : List Byte :=
  be1 ((if e.defined then 4 else 0) + (if e.cls = .pass then 2 else 0) + (if e.eligible then 1 else 0)) ++
    be1 e.hardBin ++ be1 e.rank ++ be2 e.ceiling

/-- The eight scalars in twelve bytes, in the order of LDRC part 1 (R194). -/
def Scalars.bytes (c : Scalars) : List Byte :=
  [c.policy.code] ++ be1 c.attemptLimit ++ be2 c.waferFloor ++ be2 c.lotFloor ++ be2 c.minSample ++
    be2 c.hysteresis ++ be1 c.runLimit ++ [c.advice.code]

/-! ### Message bodies (R194, R195) -/

/-- The limit code of an alert: BIN 1, YIELD 2; a YIELD alert carries soft bin 0 (R193, R195). -/
def limitCode (bin : Fin 64) : Byte := if bin = 0 then 2 else 1

/-- The body of an ALR (R195). -/
def Alert.body : Alert → List Byte
  | .waferLimit edge slot lot wafer bin threshold tested figure =>
    [0xC3, 1, edge.code] ++ be1 slot.val ++ be1 lot ++ be1 wafer ++ [limitCode bin] ++ be1 bin.val ++
      be2 threshold ++ be3 tested ++ be2 figure
  | .lotLimit edge lot ident bin threshold tested figure =>
    [0xC3, 2, edge.code] ++ be1 lot.val ++ ident ++ [limitCode bin] ++ be1 bin.val ++ be2 threshold ++ be3 tested ++
      be2 figure
  | .runAlarm edge link aliasNo slot bin =>
    [0xC3, 3, edge.code] ++ be1 link.val ++ be1 aliasNo ++ be1 slot.val ++ be1 bin.val
  | .linkError link error => [0xC3, 4, 0] ++ be1 link.val ++ [error.code]

/-- The body of a message (R194, R195): type code, header, fields. -/
def Message.body : Message → List Byte
  | .tda aliasNo verdict advice outcomes =>
    [0x81, aliasNo, verdict.code, advice.code] ++ be1 outcomes.length ++ outcomes.map SiteOutcome.code
  | .cla aliasNo result advice cell retest =>
    [0x82, aliasNo, result.code, advice.code] ++ cell.encoding ++ be1 retest.toNat
  | .rta aliasNo result advice next pairs =>
    [0x83, aliasNo, result.code, advice.code] ++ be1 next.isNone.toNat ++ be2 (next.getD 0) ++ be1 pairs.length ++
      pairs.flatMap fun p => be1 p.1 ++ be1 p.2
  | .rsp tag cmd status fields => [0xC0, tag, cmd, status.code] ++ fields
  | .acc tag cmd fields => [0xC1, tag, cmd] ++ fields
  | .don d => [0xC2, d.tag, d.cmd, d.status.code] ++ d.fields
  | .alr a => a.body
  | .mch slot chunk cells =>
    [0xC4] ++ be1 slot.val ++ be2 chunk ++ be1 cells.length ++ cells.flatMap Cell.encoding
  | .mnd slot status chunks digest =>
    [0xC5] ++ be1 slot.val ++ [status.code] ++ be2 chunks ++ word16Bytes digest

/-! ### Frames (R163, R164) -/

/-- The frame check: the CRC-16 over the length byte and the body. -/
def frameCheck (len : Byte) (body : List Byte) : Word16 := crc16 (len :: body)

/-- A body as one frame: start marker, length, body, check. -/
def frame (body : List Byte) : List Byte :=
  let len := BitVec.ofNat 8 body.length
  [0xA5, len] ++ body ++ word16Bytes (frameCheck len body)

end Sys2Proof.Machine
end

