-- ==== Sys2Proof/Machine/Memory.lean ====
section
/-! DEFINITION. The cell records of a slot as a memory in one canonical form (R18, R30): reading, writing and the bulk
writes of initialization (R27, R28) and reopening (R150). An index that is not listed reads as the cell the Clear Unit
leaves. -/

namespace Sys2Proof.Machine

/-- The cell record at an index. -/
def Memory.read (i : Nat) : Memory → Cell
  | [] => Cell.blank
  | (j, c) :: m => if i = j then c else Memory.read i m

/-- Writes one cell record, keeping the canonical form. -/
def Memory.write (i : Nat) (c : Cell) : Memory → Memory
  | [] => if c = Cell.blank then [] else [(i, c)]
  | (j, d) :: m =>
    if i < j then (if c = Cell.blank then (j, d) :: m else (i, c) :: (j, d) :: m)
    else if i = j then (if c = Cell.blank then m else (i, c) :: m)
    else (j, d) :: Memory.write i c m

/-- The canonical form from a lowest index on: indices strictly rising, none blank. -/
def Memory.wfFrom (lo : Nat) : Memory → Bool
  | [] => true
  | (j, c) :: m => decide (lo ≤ j) && c != Cell.blank && Memory.wfFrom (j + 1) m

/-- The canonical form of a slot's cell records. -/
def Memory.wf (m : Memory) : Bool := Memory.wfFrom 0 m

/-- R28: the cell at column `x` and row `y` lies outside the ellipse inscribed in the grid. The arithmetic is exact. -/
def outsideEllipse (rows cols x y : Nat) : Bool :=
  let dx : Int := 2 * x + 1 - cols
  let dy : Int := 2 * y + 1 - rows
  decide (((rows * rows * cols * cols : Nat) : Int) < dx * dx * (rows * rows) + dy * dy * (cols * cols))

/-- R28: initialization excludes the cell of an index: the round flag is set and the cell lies outside the ellipse. -/
def excludedAtOpen (g : Geometry) (i : Nat) : Bool :=
  g.round && outsideEllipse g.rows g.cols (i % g.cols) (i / g.cols)

/-- The indices initialization excludes, ascending (R28). -/
def openExclusions (g : Geometry) : List Nat :=
  (List.range (g.rows * g.cols)).filter (excludedAtOpen g)

/-- The cell records after initialization (R27): UNTESTED but for the cells R28 excludes. -/
def Memory.initial (g : Geometry) : Memory := (openExclusions g).map fun i => (i, Cell.excludedCell)

/-- R150: release of one cell: FORCED becomes TESTED, and bin, attempts and last source stay. -/
def releaseCell (c : Cell) : Cell := if c.status = .forced then { c with status := .tested } else c

/-- R150: every FORCED cell of the map below `size` is released. -/
def Memory.release (size : Nat) (m : Memory) : Memory :=
  m.map fun e => if e.1 < size then (e.1, releaseCell e.2) else e

/-- The number of FORCED cells of the map below `size`. -/
def Memory.forcedCount (size : Nat) (m : Memory) : Nat :=
  m.countP fun e => decide (e.1 < size) && e.2.status == .forced

end Sys2Proof.Machine
end

