-- ==== Sys2Proof/Machine/Operands.lean ====
section
/-! DEFINITION. How the fields of a frame name records of the part: slot, link, alias, recipe and bin numbers with their
ranges, the clamping of LDRC fields (R11), the resolution of a site to a cell (R53), the rectangle of EXCL and INCL
(R89), and the ranges that RDCL, WSUM, LSUM and RTP cut or clamp (R38, R114, R136, R83). -/

namespace Sys2Proof.Machine

/-! ### Record numbers -/

/-- A slot number, 0 to 63. -/
def slotOf (b : Byte) : Option (Fin 64) := if h : b.toNat < 64 then some ⟨b.toNat, h⟩ else none

/-- A tester link number, 0 to 11. -/
def testerOf (b : Byte) : Option (Fin 12) := if h : b.toNat < 12 then some ⟨b.toNat, h⟩ else none

/-- A link number, 0 to 12, where 12 names CL. -/
def linkOf (b : Byte) : Option (Fin 13) := if h : b.toNat < 13 then some ⟨b.toNat, h⟩ else none

/-- A recipe number, 0 to 7. -/
def recipeOf (b : Byte) : Option (Fin 8) := if h : b.toNat < 8 then some ⟨b.toNat, h⟩ else none

/-- An alias, 1 to 4, as the place of its entry, 0 to 3. -/
def aliasOf (b : Byte) : Option (Fin 4) :=
  if h : 1 ≤ b.toNat ∧ b.toNat ≤ 4 then some ⟨b.toNat - 1, by omega⟩ else none

/-- A soft-bin range as WSUM and LSUM ask for it: both 1 to 63 and first not above last (R114, R136). -/
def binRangeOk (first last : Byte) : Bool :=
  decide (1 ≤ first.toNat ∧ first.toNat ≤ 63 ∧ 1 ≤ last.toNat ∧ last.toNat ≤ 63 ∧ first.toNat ≤ last.toNat)

/-- R114, R136: the last soft bin served when at most `most` bins are. -/
def lastServed (most : Nat) (first last : Byte) : Nat := min last.toNat (first.toNat + most - 1)

/-- The soft bins from a first to a last one, ascending. -/
def binsFrom (first last : Nat) : List (Fin 64) :=
  (List.finRange 64).filter fun b => decide (first ≤ b.val ∧ b.val ≤ last)

/-! ### LDRC fields (R9, R11) -/

/-- R1, R9: the retest policy of a wire code. -/
def policyOf (b : Byte) : Option RetestPolicy :=
  match b.toNat with
  | 0 => some .last
  | 1 => some .best
  | 2 => some .stickyPass
  | _ => none

/-- R1, R9: the breach advice of a wire code. -/
def breachAdviceOf (b : Byte) : Option BreachAdvice :=
  match b.toNat with
  | 0 => some .continue
  | 1 => some .pause
  | _ => none

/-- R11: a wire value brought to the nearest end of its range. -/
def clampRange (lo hi v : Nat) : Nat := if v < lo then lo else if hi < v then hi else v

/-- R11: a hard bin outside 1 to 8 is stored as 8. -/
def clampHardBin (v : Nat) : Nat := if 1 ≤ v ∧ v ≤ 8 then v else 8

/-- R11: a run limit of 1 is stored as 2. -/
def clampRunLimit (v : Nat) : Nat := if v = 1 then 2 else v

/-- R11: one field counts when its stored value is not the wire value. -/
def changed (wire stored : Nat) : Nat := if wire = stored then 0 else 1

/-- R11: the scalars as stored, from the policy and the advice that R9 has checked. -/
def storedScalars (policy : RetestPolicy) (advice : BreachAdvice) (w : ScalarsWire) : Scalars where
  policy       := policy
  attemptLimit := clampRange 1 7 w.attemptLimit.toNat
  waferFloor   := clampRange 0 10000 w.waferFloor.toNat
  lotFloor     := clampRange 0 10000 w.lotFloor.toNat
  minSample    := clampRange 1 65535 w.minSample.toNat
  hysteresis   := clampRange 0 1000 w.hysteresis.toNat
  runLimit     := clampRunLimit w.runLimit.toNat
  advice       := advice

/-- R11: how many scalars clamping changed. -/
def scalarClamps (w : ScalarsWire) : Nat :=
  changed w.attemptLimit.toNat (clampRange 1 7 w.attemptLimit.toNat) +
  changed w.waferFloor.toNat (clampRange 0 10000 w.waferFloor.toNat) +
  changed w.lotFloor.toNat (clampRange 0 10000 w.lotFloor.toNat) +
  changed w.minSample.toNat (clampRange 1 65535 w.minSample.toNat) +
  changed w.hysteresis.toNat (clampRange 0 1000 w.hysteresis.toNat) +
  changed w.runLimit.toNat (clampRunLimit w.runLimit.toNat)

/-- R194: the entry's flag byte says defined. -/
def entryDefined (e : EntryWire) : Bool := e.flags.getLsbD 2

/-- R11: a soft-bin entry as stored; an entry sent not defined is stored at its reset values (R5). -/
def storedEntry (e : EntryWire) : BinEntry :=
  if entryDefined e then
    { defined  := true
      cls      := if e.flags.getLsbD 1 then .pass else .fail
      hardBin  := clampHardBin e.hardBin.toNat
      rank     := clampRange 0 15 e.rank.toNat
      ceiling  := clampRange 0 10000 e.ceiling.toNat
      eligible := e.flags.getLsbD 0 }
  else BinEntry.reset

/-- R11: how many fields of an entry clamping changed; an entry sent not defined counts none. -/
def entryClamps (e : EntryWire) : Nat :=
  if entryDefined e then
    changed e.hardBin.toNat (clampHardBin e.hardBin.toNat) +
    changed e.rank.toNat (clampRange 0 15 e.rank.toNat) +
    changed e.ceiling.toNat (clampRange 0 10000 e.ceiling.toNat)
  else 0

/-- The soft-bin entries of a record from those of bins 1 to 63 in order; place 0 holds reset values. -/
def entryTable (entries : List BinEntry) : Vector BinEntry 64 :=
  Vector.ofFn fun b => (BinEntry.reset :: entries).getD b.val BinEntry.reset

/-! ### Sites and cells -/

/-- Where a site result lands (R53): no cell, or the cell of an index, with the site as the cell's last source has it. -/
inductive SitePlace where
  | siteOff
  | offMap
  | cell (site : Fin 32) (index : Nat)
  deriving DecidableEq, Repr

/-- The rows of a slot's map; 0 when the slot has no geometry. -/
def Slot.rows (sl : Slot) : Nat := match sl.geometry with | some g => g.rows | none => 0

/-- The columns of a slot's map; 0 when the slot has no geometry. -/
def Slot.cols (sl : Slot) : Nat := match sl.geometry with | some g => g.cols | none => 0

/-- The number of cells of a slot's map. -/
def Slot.size (sl : Slot) : Nat := sl.rows * sl.cols

/-- The cell record at an index of a slot. -/
def Slot.cell (sl : Slot) (i : Nat) : Cell := sl.cells.read i

/-- R53: the place of site `k` of a report with origin (x0, y0) through a site map, on a map of the slot's geometry.
The sums are exact on the signed values. -/
def placeOf (sites : Vector SiteEntry 32) (sl : Slot) (x0 y0 : Int) (k : Nat) : SitePlace :=
  if h : k < 32 then
    let e := sites[k]
    if e.enabled then
      let x := x0 + e.dx
      let y := y0 + e.dy
      if 0 ≤ x ∧ x < sl.cols ∧ 0 ≤ y ∧ y < sl.rows then .cell ⟨k, h⟩ (y.toNat * sl.cols + x.toNat) else .offMap
    else .siteOff
  else .siteOff

/-- The site results of a TDR body after its count: pairs of a site and a soft bin (R194). -/
def siteResults : List Byte → List (Nat × Nat)
  | site :: bin :: rest => (site.toNat, bin.toNat) :: siteResults rest
  | _ => []

/-- R89: one coordinate of a corner brought onto the grid. -/
def clampCorner (extent v : Nat) : Nat := min v (extent - 1)

/-- R89: the indices of the rectangle spanned by two corners, clamped onto the grid, in raster order. -/
def rectangle (sl : Slot) (x1 y1 x2 y2 : Nat) : List Nat :=
  let xa := clampCorner sl.cols x1
  let xb := clampCorner sl.cols x2
  let ya := clampCorner sl.rows y1
  let yb := clampCorner sl.rows y2
  (List.range' (min ya yb) (max ya yb + 1 - min ya yb)).flatMap fun y =>
    (List.range' (min xa xb) (max xa xb + 1 - min xa xb)).map fun x => y * sl.cols + x

/-- R38: the count RDCL serves from column `x`. -/
def servedCells (sl : Slot) (x count : Nat) : Nat := min (clampRange 1 64 count) (sl.cols - x)

/-- R153: the number of cells a DGST count stands for: 0 stands for 65,536. -/
def digestCells (count : Word16) : Nat := if count.toNat = 0 then 65536 else count.toNat

/-- R172, R173: the rate a set rate value names. -/
def rateOf (b : Byte) : Option Rate :=
  match b.toNat with
  | 1 => some .mbaud1
  | 4 => some .mbaud4
  | 12 => some .mbaud12
  | _ => none

/-- R173: the mode a set mode value names. -/
def modeOf (b : Byte) : Option Mode :=
  match b.toNat with
  | 0 => some .paced
  | 1 => some .free
  | _ => none

/-- R124: a printable ASCII character. -/
def printable (b : Byte) : Bool := decide (0x20 ≤ b.toNat ∧ b.toNat ≤ 0x7E)

/-- R50: a site offset within −15 to +15. -/
def offsetOk (b : Byte) : Bool := decide (-15 ≤ b.toInt ∧ b.toInt ≤ 15)

end Sys2Proof.Machine
end

