-- ==== Sys2Proof/Machine/Ops.lean ====
section
/-! DEFINITION. The named operations the meanings share: records by number, queues and room (R186), alerts (R187), link
errors (R174, R175), the arbiter (R62, R63) and the three ways a command is taken (R64, R180, R182), completions
(R184), limit evaluations (R102), the workspace of a cell change (R64, R121), the directory and member lists (R36,
R120), initialization, attachment, retirement and entry to CLEARING (R25, R27, R32), unbinding (R48), and the reading of
cells by the Sweep Unit (R140). -/

namespace Sys2Proof.Machine

/-- What a command answers: the three outcomes of the host's interface. -/
abbrev Result := Host.Outcome State Fault Refusal

/-! ### Records by number -/

def State.setSlot (s : State) (i : Fin 64) (sl : Slot) : State := { s with slots := s.slots.set i sl }
def State.setLot (s : State) (k : Fin 16) (l : Lot) : State := { s with lots := s.lots.set k l }
def State.setLink (s : State) (n : Fin 13) (l : Link) : State := { s with links := s.links.set n l }
def State.setTester (s : State) (n : Fin 12) (t : Tester) : State := { s with testers := s.testers.set n t }

/-- The recipe record a recipe number names; a slot or lot with none (FREE, CLEARING) reads reset values (R7, R93). -/
def State.recipeAt (s : State) : Option (Fin 8) → Recipe
  | some r => s.recipes[r]
  | none => Recipe.reset

/-- The recipe of a slot (R7). -/
def State.recipeOfSlot (s : State) (i : Fin 64) : Recipe := s.recipeAt s.slots[i].recipe

/-- The recipe of a lot entry. -/
def State.recipeOfLot (s : State) (k : Fin 16) : Recipe := s.recipeAt s.lots[k].recipe

/-- R6: a lot entry that is not FREE names the recipe. -/
def State.recipeInUse (s : State) (r : Fin 8) : Bool :=
  s.lots.toList.any fun l => l.state != .free && l.recipe == some r

/-- R126: the lot entry whose identifier matches, among those that are not FREE. -/
def State.findLot (s : State) (ident : LotId) : Option (Fin 16) :=
  (List.finRange 16).find? fun k => s.lots[k].state != .free && s.lots[k].ident == some ident

/-! ### Queues and room (R168, R177, R186) -/

/-- CL among the links. -/
def cl : Fin 13 := 12

/-- How many frames a holding queue holds (R168). -/
def holdCap (n : Fin 13) : Nat := if n = cl then 4 else 2

/-- How many messages an outbound queue holds (R177). -/
def outCap (n : Fin 13) : Nat := if n = cl then 32 else 4

/-- The free entries of a link's outbound queue when `held` of them are held for an answer (R64, R186). -/
def State.room (s : State) (n : Fin 13) (held : Nat) : Nat := outCap n - s.links[n].outbound.length - held

/-- A message joins an outbound queue; the transmitter begins it at once when it is idle (R177). -/
def Link.push (m : Message) (l : Link) : Link :=
  { l with outbound := l.outbound ++ [m]
           lineRate := if l.outbound.isEmpty then some l.rate else l.lineRate }

/-- R177: a message is placed in a link's outbound queue. -/
def State.place (s : State) (n : Fin 13) (m : Message) : State := s.setLink n (s.links[n].push m)

/-- R169: the ready line of a link; withdrawn on every link while the RESET pin is asserted (R178). -/
def State.ready (s : State) (n : Fin 13) : Bool :=
  !s.resetPin && (s.links[n].state == .running &&
    (s.links[n].mode == .free || decide (s.links[n].holding.length < holdCap n)))

/-! ### Alerts (R187) -/

/-- R187: an alert is placed when CL's outbound queue has at least 8 free entries, and is dropped otherwise. -/
def State.offer (s : State) (held : Nat) (a : Alert) : State :=
  if 8 ≤ s.room cl held then s.place cl (.alr a) else { s with dropped := true }

/-- The alerts of one event, offered in the order they arise. -/
def State.offerAll (s : State) (held : Nat) (alerts : List Alert) : State :=
  alerts.foldl (fun t a => t.offer held a) s

/-! ### Link errors and counters (R174, R175) -/

/-- A counter that is held at its top value (R174). -/
def bump (top n : Nat) : Nat := min top (n + 1)

/-- R174: an error event on a link: the last error becomes its code, and its counter rises. -/
def Link.fail (e : LinkError) (l : Link) : Link :=
  if e = .overrun then { l with lastError := e, overruns := bump 255 l.overruns }
  else { l with lastError := e, bad := bump 255 l.bad }

/-- R174, R175: an error event, with the LINK_ERROR alert it offers when it finds the last error NONE. -/
def State.linkError (s : State) (n : Fin 13) (e : LinkError) : State :=
  let t := s.setLink n (s.links[n].fail e)
  if s.links[n].lastError = .none then t.offer 0 (.linkError n e) else t

/-- R171: a DRAINING link becomes STOPPED once its receiver is IDLE and its holding queue is empty. -/
def Link.drained (l : Link) : Link :=
  if l.state = .draining ∧ l.receiver = .idle ∧ l.holding = [] then { l with state := .stopped } else l

/-- R165: where the receiver goes after a frame or an error: HUNT in a RUNNING link and IDLE in a DRAINING one. -/
def Link.afterFrame (l : Link) : Receiver := if l.state = .draining then .idle else .hunt false

/-- R165, R172: the receiver holds the beginning of a frame. -/
def Receiver.inFrame : Receiver → Bool
  | .length | .body _ _ | .check _ _ _ => true
  | .idle | .hunt _ => false

/-- R172: discarding as stop-force does: the frame in assembly and every held frame, each counted; the receiver becomes
IDLE and the link STOPPED. -/
def Link.discardAll (l : Link) : Link :=
  { l with state := .stopped, receiver := .idle, holding := []
           discards := min 255 (l.discards + (l.receiver.inFrame.toNat + l.holding.length)) }

/-- R172: how many frames `discardAll` discards. -/
def Link.discardable (l : Link) : Nat := l.receiver.inFrame.toNat + l.holding.length

/-! ### The arbiter (R61, R62, R63) -/

/-- The position of a tester link among the sources and the links. -/
def tl (n : Fin 12) : Fin 13 := n.castSucc

/-- R62: a source has work. Position 12 is the Command Interpreter, whose work is a current command it does not answer
itself. -/
def State.hasWork (s : State) (n : Fin 13) : Bool :=
  if n = cl then
    (match s.current with | some c => !c.selfServed | none => false) && decide (1 ≤ s.room cl 0) &&
      s.completions.isEmpty
  else
    s.links[n].state != .stopped && !s.links[n].holding.isEmpty && decide (1 ≤ s.room n 0)

/-- R63: the source the engine takes next: the first that has work in circular order from the pointer. -/
def State.nextSource (s : State) : Option (Fin 13) :=
  ((List.finRange 13).map fun k => s.pointer + k).find? s.hasWork

/-! ### Completions (R184) -/

/-- R184: DONs join the tail of the completion list in the order handed. -/
def State.hand (s : State) (ds : List Done) : State := { s with completions := s.completions ++ ds }

/-! ### How a command is taken -/

/-- What an engine item for a CL command produces: the records after it, the alerts it offers, its answer, and the DONs
it hands (R64, R184). -/
structure Item where
  state  : State
  alerts : List Alert
  answer : Message
  dones  : List Done := []

/-- A refusal: RSP with the refusal code and nothing changed (R181, R195). -/
def Item.refuse (c : Instr) (tag : Byte) (status : Status) (s : State) : Item :=
  ⟨s, [], .rsp tag c.code status [], []⟩

/-- RSP OK with its result fields, and no alert (R181, R195). -/
def Item.ok (c : Instr) (tag : Byte) (fields : List Byte) (s : State) : Item :=
  ⟨s, [], .rsp tag c.code .ok fields, []⟩

/-- ACC with its fields, and no alert (R181, R195). -/
def Item.accept (c : Instr) (tag : Byte) (fields : List Byte) (s : State) : Item :=
  ⟨s, [], .acc tag c.code fields, []⟩

/-- The end of a CL command's item: the alerts while one entry is held, then the answer in the held entry, then the
DONs (R64, R184, R187). The current command ends (R181), and the pointer moves past position 12 to TL0 (R63). -/
def Item.finish (it : Item) : State :=
  let t := ((it.state.offerAll 1 it.alerts).place cl it.answer).hand it.dones
  { t with current := none, pointer := 0 }

/-- R63, R64: the engine takes the current CL command `c` as one item. When it is not `c` that the engine takes next
(another source comes first, no room, a waiting completion, another or no current command, or the RESET pin asserted),
the event does not occur and nothing changes. Assumption 1. -/
def engineCommand (c : Instr) (work : State → Item) (s : State) : Result :=
  if s.resetPin = false ∧ s.current = some c ∧ s.nextSource = some cl then .next (work s).finish else .next s

/-- R182: the interpreter serves the current command `c` itself, in one event, when CL's outbound queue has a free entry.
Otherwise the command waits and nothing changes. Assumption 1. -/
def serveCommand (c : Instr) (work : State → State × Message) (s : State) : Result :=
  if s.resetPin = false ∧ s.current = some c ∧ 1 ≤ s.room cl 0 then
    let r := work s
    .next { r.1.place cl r.2 with current := none }
  else .next s

/-- What an engine item for a tester frame produces: the records after it, the alerts it offers, and its answer. -/
structure Report where
  state  : State
  alerts : List Alert
  answer : Message

/-- The engine takes the head frame of a tester link: the frame leaves the holding queue, a drained link stops (R171),
and the pointer moves past the link (R63). -/
def State.takeFrame (s : State) (n : Fin 12) : State :=
  let l := s.links[tl n]
  { s.setLink (tl n) { l with holding := l.holding.tail }.drained with pointer := tl n + 1 }

/-- R63: the frame the engine takes next from a tester link, when that link is the source it takes. -/
def State.nextFrame (s : State) (n : Fin 12) : Option (List Byte) :=
  if s.resetPin = false ∧ s.nextSource = some (tl n) then s.links[tl n].holding.head? else none

/-- R63, R64, R65: the engine takes the report `c` from tester link `n` as one item, and its answer fills the entry held
in that link's outbound queue. When it is not `c` that the engine takes next, nothing changes. Assumption 1. -/
def engineReport (n : Fin 12) (c : Instr) (work : State → Report) (s : State) : Result :=
  if (s.nextFrame n).map (decodeReport n) = some (.command c) then
    let r := work (s.takeFrame n)
    .next ((r.state.offerAll 0 r.alerts).place (tl n) r.answer)
  else .next s

/-! ### Limit evaluations (R102, R108, R117, R128) -/

/-- The WAFER_LIMIT alert of a change (R108). -/
def waferAlert (i : Fin 64) (id : Option Identity) (c : LimitChange) : Alert :=
  .waferLimit c.edge i (match id with | some d => d.lot.val | none => 255)
    (match id with | some d => d.wafer | none => 0) c.bin c.threshold c.tested c.figure

/-- The LOT_LIMIT alert of a change (R128). -/
def lotAlert (k : Fin 16) (ident : Option LotId) (c : LimitChange) : Alert :=
  .lotLimit c.edge k (ident.getD []) c.bin c.threshold c.tested c.figure

/-- R102: an evaluation of a slot, with the alerts it offers. -/
def State.evaluateSlot (s : State) (i : Fin 64) : State × List Alert :=
  let sl := s.slots[i]
  let r := s.recipeOfSlot i
  (s.setSlot i { sl with limits := evaluate r r.scalars.waferFloor sl.tallies sl.limits },
    (limitChanges r r.scalars.waferFloor sl.tallies sl.limits).map (waferAlert i sl.identity))

/-- R117, R127: an evaluation of a lot entry, with the alerts it offers. -/
def State.evaluateLot (s : State) (k : Fin 16) : State × List Alert :=
  let l := s.lots[k]
  let r := s.recipeOfLot k
  (s.setLot k { l with limits := evaluate r r.scalars.lotFloor l.totals l.limits },
    (limitChanges r r.scalars.lotFloor l.totals l.limits).map (lotAlert k l.ident))

/-- R78 step 1, R85, R103: after an item's last tally move, the slot is evaluated and then its lot. -/
def State.evaluateBoth (s : State) (i : Fin 64) : State × List Alert :=
  let a := s.evaluateSlot i
  match s.slots[i].identity with
  | some id =>
    let b := a.1.evaluateLot id.lot
    (b.1, a.2 ++ b.2)
  | none => a

/-! ### The workspace of a cell change -/

/-- What a posting or an override works on: the slot record, the totals of the slot's lot, which every tally move of the
slot moves alike (R121), and whether a tally move has been made (R103). -/
structure Wafer where
  slot   : Slot
  totals : Tallies
  moved  : Bool

/-- The workspace of a slot. -/
def State.wafer (s : State) (i : Fin 64) : Wafer :=
  ⟨s.slots[i], match s.slots[i].identity with | some id => s.lots[id.lot].totals | none => Tallies.zero, false⟩

/-- The workspace written back: the slot record and the totals of the lot its identity names. -/
def State.putWafer (s : State) (i : Fin 64) (w : Wafer) : State :=
  let t := s.setSlot i w.slot
  match w.slot.identity with
  | some id => t.setLot id.lot { t.lots[id.lot] with totals := w.totals }
  | none => t

/-- A tally move on the slot and, alike, on its lot's totals. -/
def Wafer.tally (f : Tallies → Tallies) (w : Wafer) : Wafer :=
  ⟨{ w.slot with tallies := f w.slot.tallies }, f w.totals, true⟩

/-- A cell record is written. -/
def Wafer.write (i : Nat) (c : Cell) (w : Wafer) : Wafer :=
  { w with slot := { w.slot with cells := w.slot.cells.write i c } }

/-! ### The Sweep Unit's reading (R139, R140) -/

/-- The register after the encodings of the cells of a slot from index `lo` up to but not including `hi`. -/
def digestCellsFrom (reg : Word16) (cells : Memory) (lo hi : Nat) : Word16 :=
  (List.range' lo (hi - lo)).foldl (fun r i => crcFrom r (cells.read i).encoding) reg

/-- R139, R140: the job reads its slot's cells up to but not including an index. -/
def Job.readTo (j : Job) (cells : Memory) (upto : Nat) : Job :=
  { j with next := max j.next upto, register := digestCellsFrom j.register cells j.next upto }

/-- R140, R155: before an item writes the map of slot `i`, a DIGEST job running on it has read as many of its cells as a
free value says. Assumption 3. -/
def State.readAhead (s : State) (i : Fin 64) : State :=
  match s.jobs with
  | j :: rest =>
    if j.kind = .digest ∧ j.slot = i then
      { s with
        jobs := j.readTo s.slots[i].cells (min (j.next + Config.cellsReadAhead s.freeIndex) j.stop) :: rest
        freeIndex := s.freeIndex + 1 }
    else s
  | [] => s

/-- R138: the Sweep Unit's queue has a place. -/
def State.sweepRoom (s : State) : Bool := decide (s.jobs.length < 8)

/-- The workspace of a cell change written back, after the running DIGEST job has read ahead (R64, R140). -/
def State.commit (s : State) (i : Fin 64) (w : Wafer) : State := (s.readAhead i).putWafer i w

/-- R78 step 1, R85: the workspace written back, with the evaluations when a tally move was made. -/
def State.settle (s : State) (i : Fin 64) (w : Wafer) : State × List Alert :=
  let t := s.commit i w
  if w.moved then t.evaluateBoth i else (t, [])

/-! ### Directory, member lists and the life of a slot -/

/-- R36: the slot the directory gives for a lot entry and a wafer number. -/
def State.lookup (s : State) (k : Fin 16) (wafer : Nat) : Option (Fin 64) :=
  (s.directory.find? fun e => e.lot == k && e.wafer == wafer).map (·.slot)

/-- R120: the member entry of a wafer is changed in its lot's list. -/
def State.setMember (s : State) (id : Option Identity) (f : Member → Member) : State :=
  match id with
  | some d => s.setLot d.lot
      { s.lots[d.lot] with members := s.lots[d.lot].members.map fun m => if m.wafer = d.wafer then f m else m }
  | none => s

/-- R32: entry to CLEARING: the slot record is emptied but for its cells, the pin count falls when the slot was pinned,
the slot's directory entry goes with its identity, and the slot joins the tail of the Clear Unit's list. -/
def State.enterClearing (s : State) (i : Fin 64) : State :=
  { s.setSlot i (Slot.empty .clearing s.slots[i].cells) with
    pinCount  := s.pinCount - s.slots[i].pinned.toNat
    directory := s.directory.filter (fun e => e.slot != i)
    clearList := s.clearList ++ [i] }

/-- R122: the slot's tallies are added to its lot's carry. -/
def State.foldCarry (s : State) (i : Fin 64) : State :=
  match s.slots[i].identity with
  | some d => s.setLot d.lot { s.lots[d.lot] with carry := s.lots[d.lot].carry.plus s.slots[i].tallies }
  | none => s

/-- R32: retirement of a slot: fold, directory entry, member entry, entry to CLEARING. -/
def State.retire (s : State) (i : Fin 64) : State :=
  ((s.foldCarry i).setMember s.slots[i].identity fun m => { m with slot := none, retired := true }).enterClearing i

/-- R27: initialization of a slot for an open. -/
def State.initSlot (s : State) (i : Fin 64) (o : PendingOpen) : State :=
  let g : Geometry := ⟨o.rows, o.cols, o.round⟩
  s.setSlot i
    { state := .opened, identity := some ⟨o.lot, o.wafer⟩, recipe := s.lots[o.lot].recipe, geometry := some g
      mapSize := g.rows * g.cols - (openExclusions g).length
      tallies := Tallies.zero, shadowed := 0, disposition := .none
      closeDigest := none, finalYield := none, closeSeq := none
      exported := false, forceHold := o.forceHold, pinned := false, pendingOpen := none, busy := none
      limits := LimitStates.clear, cells := Memory.initial g }

/-- R36: an identity enters the directory. -/
def State.enterDirectory (s : State) (k : Fin 16) (wafer : Nat) (i : Fin 64) : State :=
  { s with directory := s.directory ++ [⟨k, wafer, i⟩] }

/-- R24, R25: a member entry is appended to a lot's list. -/
def State.addMember (s : State) (k : Fin 16) (m : Member) : State :=
  s.setLot k { s.lots[k] with members := s.lots[k].members ++ [m] }

/-- R25: a pending open is attached to a CLEARING slot. -/
def State.attach (s : State) (i : Fin 64) (o : PendingOpen) : State :=
  ((s.setSlot i { s.slots[i] with pendingOpen := some o, identity := some ⟨o.lot, o.wafer⟩ }).enterDirectory
    o.lot o.wafer i).addMember o.lot ⟨o.wafer, none, false, true, none, .none⟩

/-! ### Unbinding (R43, R48, R59) -/

/-- The RUN_ALARM CLEAR alerts of the entries bound to a slot whose alarm is set, in order of link then alias (R48). -/
def State.alarmClears (s : State) (i : Fin 64) : List Alert :=
  (List.finRange 12).flatMap fun n => (List.finRange 4).filterMap fun a =>
    let e := s.testers[n].bindings[a]
    if e.slot = some i ∧ e.alarm = true then some (.runAlarm .clear n (a.val + 1) i 0) else none

/-- R48: every alias entry bound to the slot is unbound. -/
def State.unbindAll (s : State) (i : Fin 64) : State :=
  { s with testers := Vector.ofFn fun n =>
      { s.testers[n] with bindings := Vector.ofFn fun a =>
          if s.testers[n].bindings[a].slot = some i then Binding.unbound else s.testers[n].bindings[a] } }

/-- An alias entry is replaced. -/
def State.setBinding (s : State) (n : Fin 12) (a : Fin 4) (e : Binding) : State :=
  s.setTester n { s.testers[n] with bindings := s.testers[n].bindings.set a e }

/-- R59: the RUN_ALARM CLEAR alert of an entry whose alarm changes from yes to no. -/
def alarmClear (n : Fin 12) (a : Fin 4) (e : Binding) : List Alert :=
  match e.slot with
  | some i => if e.alarm then [.runAlarm .clear n (a.val + 1) i 0] else []
  | none => []

/-- R109: the slots with an active breach, ascending. -/
def State.breachedSlots (s : State) : List (Fin 64) :=
  (List.finRange 64).filter fun i => s.slots[i].limits.active

/-- R128: the lot entries with an active breach, ascending. -/
def State.breachedLots (s : State) : List (Fin 16) :=
  (List.finRange 16).filter fun k => s.lots[k].limits.active

/-- R59: the alias entries whose run alarm is yes, in order of link then alias. -/
def State.alarms (s : State) : List (Fin 12 × Fin 4) :=
  (List.finRange 12).flatMap fun n => (List.finRange 4).filterMap fun a =>
    if s.testers[n].bindings[a].alarm then some (n, a) else none

/-- R175: the links whose last error is not NONE, ascending. -/
def State.failedLinks (s : State) : List (Fin 13) :=
  (List.finRange 13).filter fun n => s.links[n].lastError != .none

end Sys2Proof.Machine
end

