-- ==== Sys2Proof/Machine/Bindings.lean ====
section
/-! DEFINITION. Bindings and site maps (spec/03): BIND, UBND, RSMB and STMP. -/

namespace Sys2Proof.Machine

/-- A command that begins with a tester link number and an alias (BAD_FIELD otherwise; R45, R47, R58). -/
def aliasItem (c : Instr) (tag link aliasNo : Byte) (work : Fin 12 → Fin 4 → State → Item) (s : State) : Item :=
  match testerOf link, aliasOf aliasNo with
  | some n, some a => work n a s
  | _, _ => .refuse c tag .badField s

/-- R45, R46: the item of a BIND on an alias entry. -/
def bindWork (c : Instr) (tag slot : Byte) (n : Fin 12) (a : Fin 4) (s : State) : Item :=
  match slotOf slot with
  | none => .refuse c tag .badField s
  | some i =>
    let old := s.testers[n].bindings[a]
    if s.slots[i].state = .opened then
      ⟨s.setBinding n a ⟨some i, none, 0, false⟩, alarmClear n a old, .rsp tag c.code .ok [slotByte old.slot], []⟩
    else .refuse c tag .wrongState s

/-- BIND (R45): bind alias. -/
def execBind (tag link aliasNo slot : Byte) (s : State) : Result :=
  engineCommand (.bind tag link aliasNo slot)
    (aliasItem (.bind tag link aliasNo slot) tag link aliasNo (bindWork (.bind tag link aliasNo slot) tag slot)) s

/-- R47: the item of a UBND. -/
def ubndWork (c : Instr) (tag : Byte) (n : Fin 12) (a : Fin 4) (s : State) : Item :=
  let old := s.testers[n].bindings[a]
  ⟨s.setBinding n a Binding.unbound, alarmClear n a old, .rsp tag c.code .ok [slotByte old.slot], []⟩

/-- UBND (R47): unbind alias. -/
def execUbnd (tag link aliasNo : Byte) (s : State) : Result :=
  engineCommand (.ubnd tag link aliasNo)
    (aliasItem (.ubnd tag link aliasNo) tag link aliasNo (ubndWork (.ubnd tag link aliasNo) tag)) s

/-- R58: the answer of an RSMB: the entry's slot, run bin and run length, then its bound mark and run alarm. -/
def rsmbFields (e : Binding) : List Byte :=
  [slotByte e.slot] ++ be1 (e.runBin.getD 0).val ++ be1 e.runLength ++ flagBytes [e.slot.isSome, e.alarm]

/-- R58: the item of an RSMB: the run state is cleared and the binding stays. -/
def rsmbWork (c : Instr) (tag : Byte) (n : Fin 12) (a : Fin 4) (s : State) : Item :=
  let old := s.testers[n].bindings[a]
  if old.slot.isSome then
    ⟨s.setBinding n a ⟨old.slot, none, 0, false⟩, alarmClear n a old, .rsp tag c.code .ok (rsmbFields old), []⟩
  else .ok c tag (rsmbFields old) s

/-- RSMB (R58): reset binding monitor. -/
def execRsmb (tag link aliasNo : Byte) (s : State) : Result :=
  engineCommand (.rsmb tag link aliasNo)
    (aliasItem (.rsmb tag link aliasNo) tag link aliasNo (rsmbWork (.rsmb tag link aliasNo) tag)) s

/-- R50: every listed site number and offset is in range. -/
def stmpEntriesOk (entries : List SiteWire) : Bool :=
  entries.all fun e => decide (e.site.toNat < 32) && offsetOk e.dx && offsetOk e.dy

/-- R51: one listed entry replaces the entry of its site. -/
def writeSite (m : Vector SiteEntry 32) (e : SiteWire) : Vector SiteEntry 32 :=
  if h : e.site.toNat < 32 then m.set e.site.toNat ⟨yesByte e.enabled, e.dx.toInt, e.dy.toInt⟩ else m

/-- R50, R51: the item of an STMP. -/
def stmpItem (c : Instr) (tag link count : Byte) (entries : List SiteWire) (s : State) : Item :=
  match testerOf link with
  | none => .refuse c tag .badField s
  | some n =>
    if 1 ≤ count.toNat ∧ count.toNat ≤ 32 ∧ stmpEntriesOk entries = true then
      .ok c tag [count]
        (s.setTester n { s.testers[n] with sites := entries.foldl writeSite s.testers[n].sites })
    else .refuse c tag .badField s

/-- STMP (R50): set site map. -/
def execStmp (tag link count : Byte) (entries : List SiteWire) (s : State) : Result :=
  engineCommand (.stmp tag link count entries)
    (stmpItem (.stmp tag link count entries) tag link count entries) s

end Sys2Proof.Machine
end

