-- ==== Sys2Proof/Machine/Wafers.lean ====
section
/-! DEFINITION. The Map Store (spec/02): opening a wafer, retirement, pins, the directory, reading cells, and the end of
a clearing; and the wafer summary and release of spec/05. -/

namespace Sys2Proof.Machine

/-! ### OPWF (R22 to R26) -/

/-- R23: where an open goes. -/
inductive OpenPlace where
  /-- Step 1: the lowest-numbered FREE slot. -/
  | free (i : Fin 64)
  /-- Step 2: the CLEARING slot without a pending open that is nearest the head of the Clear Unit's list. -/
  | clearing (i : Fin 64)
  /-- Step 3: the reclaim candidate. -/
  | reclaim (i : Fin 64)
  | noSlot
  deriving DecidableEq, Repr

/-- R26: the slot is a reclaim candidate. -/
def Slot.reclaimable (sl : Slot) : Bool :=
  sl.state == .closed && sl.exported && !sl.pinned && sl.busy.isNone

/-- R26: of two slots, the one reclaim prefers, the first standing for equal numbers. -/
def olderClosed (s : State) (best : Option (Fin 64)) (i : Fin 64) : Option (Fin 64) :=
  match best with
  | none => some i
  | some j => if s.slots[i].closeSeq.getD 0 < s.slots[j].closeSeq.getD 0 then some i else some j

/-- R26: the reclaim candidate with the smallest close sequence number, the lowest-numbered among equals. -/
def State.reclaimSlot (s : State) : Option (Fin 64) :=
  ((List.finRange 64).filter fun i => s.slots[i].reclaimable).foldl (olderClosed s) none

/-- R23: the three steps in order. -/
def State.openPlace (s : State) : OpenPlace :=
  match (List.finRange 64).find? fun i => s.slots[i].state == .free with
  | some i => .free i
  | none =>
    match s.clearList.find? fun i => s.slots[i].pendingOpen.isNone with
    | some i => .clearing i
    | none =>
      match s.reclaimSlot with
      | some i => .reclaim i
      | none => .noSlot

/-- R24: an open that completes at once on a FREE slot. -/
def State.openNow (s : State) (i : Fin 64) (o : PendingOpen) : State :=
  ((s.initSlot i o).enterDirectory o.lot o.wafer i).addMember o.lot ⟨o.wafer, some i, false, false, none, .none⟩

/-- R22 to R26: the item of an OPWF. -/
def opwfItem (c : Instr) (tag : Byte) (ident : LotId) (wafer : Byte) (rows cols : Word16) (round forceHold : Byte)
    (s : State) : Item :=
  match s.findLot ident with
  | none => .refuse c tag .noLot s
  | some k =>
    let lot := s.lots[k]
    let o : PendingOpen := ⟨k, wafer.toNat, rows.toNat, cols.toNat, yesByte round, yesByte forceHold, tag⟩
    if lot.state ≠ .opened then .refuse c tag .lotClosed s
    else if lot.members.any (fun m => m.wafer == wafer.toNat) then .refuse c tag .duplicate s
    else if 50 ≤ lot.members.length then .refuse c tag .lotFull s
    else if ¬(1 ≤ o.wafer ∧ o.wafer ≤ 50 ∧ 1 ≤ o.rows ∧ o.rows ≤ 256 ∧ 1 ≤ o.cols ∧ o.cols ≤ 256) then
      .refuse c tag .badField s
    else match s.openPlace with
      | .free i => .ok c tag (be1 i.val) (s.openNow i o)
      | .clearing i => .accept c tag (be1 i.val) (s.attach i o)
      | .reclaim i => .accept c tag (be1 i.val) ((s.retire i).attach i o)
      | .noSlot => .refuse c tag .noSlot s

/-- OPWF (R22): open wafer. -/
def execOpwf (tag : Byte) (ident : LotId) (wafer : Byte) (rows cols : Word16) (round forceHold : Byte) (s : State) :
    Result :=
  engineCommand (.opwf tag ident wafer rows cols round forceHold)
    (opwfItem (.opwf tag ident wafer rows cols round forceHold) tag ident wafer rows cols round forceHold) s

/-! ### CLEARING_END (R31, R135) -/

/-- R31: what the end of a clearing makes of the slot: it opens for its pending open, with the DON handed, or becomes
FREE. Its cell records are the Clear Unit's (R30). -/
def State.endClearing (s : State) (i : Fin 64) : State × List Done :=
  let sl := s.slots[i]
  match sl.pendingOpen with
  | some o =>
    ((s.initSlot i o).setMember (some ⟨o.lot, o.wafer⟩) fun m => { m with slot := some i, opening := false },
      [⟨o.tag, 0x16, .ok, be1 i.val⟩])
  | none => (s.setSlot i { sl with state := .free, cells := [] }, [])

/-- R135: the RETIRING entry whose retirement set holds the slot. -/
def State.retiringLot (s : State) (i : Fin 64) : Option (Fin 16) :=
  (List.finRange 16).find? fun k =>
    s.lots[k].state == .retiring && (match s.lots[k].retirement with | some t => t.slots.contains i | none => false)

/-- R135: the slot leaves the retirement set that holds it; an emptied set frees the lot entry, with the DON handed. -/
def State.leaveRetirement (s : State) (i : Fin 64) : State × List Done :=
  match s.retiringLot i with
  | none => (s, [])
  | some k =>
    match s.lots[k].retirement with
    | none => (s, [])
    | some t =>
      let rest := t.slots.filter fun j => j != i
      if rest.isEmpty then (s.setLot k Lot.free, [⟨t.tag, 0x14, .ok, be1 k.val⟩])
      else (s.setLot k { s.lots[k] with retirement := some { t with slots := rest } }, [])

/-- CLEARING_END (R31): the Clear Unit finishes the slot at the head of its list. With an empty list, or while the RESET
pin is asserted, the unit takes no step (R29, R178). -/
def execClearingEnd (s : State) : Result :=
  match s.clearList with
  | i :: rest =>
    if s.resetPin then .next s
    else
      let a := { s with clearList := rest }.endClearing i
      let b := a.1.leaveRetirement i
      .next (b.1.hand (a.2 ++ b.2))
  | [] => .next s

/-! ### Commands on a slot -/

/-- A command that begins with a slot number 0 to 63 (BAD_FIELD otherwise). -/
def slotItem (c : Instr) (tag slot : Byte) (work : Fin 64 → State → Item) (s : State) : Item :=
  match slotOf slot with
  | none => .refuse c tag .badField s
  | some i => work i s

/-- A slot that holds a wafer's map: neither FREE nor CLEARING. -/
def Slot.inUse (sl : Slot) : Bool := sl.state != .free && sl.state != .clearing

/-- R33: the item of an RTWF. -/
def rtwfWork (c : Instr) (tag : Byte) (i : Fin 64) (s : State) : Item :=
  let sl := s.slots[i]
  if sl.state = .exporting then .refuse c tag .busy s
  else if sl.state ≠ .closed then .refuse c tag .wrongState s
  else if sl.busy.isSome then .refuse c tag .busy s
  else .ok c tag [] (s.retire i)

/-- RTWF (R33): retire wafer. -/
def execRtwf (tag slot : Byte) (s : State) : Result :=
  engineCommand (.rtwf tag slot) (slotItem (.rtwf tag slot) tag slot (rtwfWork (.rtwf tag slot) tag)) s

/-- R34: the item of a PINS. -/
def pinsWork (c : Instr) (tag : Byte) (i : Fin 64) (s : State) : Item :=
  let sl := s.slots[i]
  if sl.inUse = false then .refuse c tag .notInUse s
  else if sl.pinned then .ok c tag [] s
  else if 16 ≤ s.pinCount then .refuse c tag .pinFull s
  else .ok c tag [] { s.setSlot i { sl with pinned := true } with pinCount := s.pinCount + 1 }

/-- PINS (R34): pin slot. -/
def execPins (tag slot : Byte) (s : State) : Result :=
  engineCommand (.pins tag slot) (slotItem (.pins tag slot) tag slot (pinsWork (.pins tag slot) tag)) s

/-- R35: the item of a UPIN. -/
def upinWork (c : Instr) (tag : Byte) (i : Fin 64) (s : State) : Item :=
  let sl := s.slots[i]
  if sl.inUse = false then .refuse c tag .notInUse s
  else if sl.pinned then .ok c tag [] { s.setSlot i { sl with pinned := false } with pinCount := s.pinCount - 1 }
  else .ok c tag [] s

/-- UPIN (R35): unpin slot. -/
def execUpin (tag slot : Byte) (s : State) : Result :=
  engineCommand (.upin tag slot) (slotItem (.upin tag slot) tag slot (upinWork (.upin tag slot) tag)) s

/-! ### FNDW (R37) -/

/-- R37: where a wafer of a lot entry stands: the finding and, where it has them, the slot and its state. -/
def State.finding (s : State) (k : Fin 16) (wafer : Nat) : List Byte :=
  match s.lookup k wafer with
  | some i =>
    if s.slots[i].inUse then [1] ++ be1 i.val ++ [s.slots[i].state.code] else [2] ++ be1 i.val
  | none =>
    if s.lots[k].members.any (fun m => m.wafer == wafer && m.retired) then [3] else [4]

/-- R37: the item of an FNDW. -/
def fndwItem (c : Instr) (tag : Byte) (ident : LotId) (wafer : Byte) (s : State) : Item :=
  match s.findLot ident with
  | none => .refuse c tag .noLot s
  | some k => .ok c tag (s.finding k wafer.toNat) s

/-- FNDW (R37): find wafer. -/
def execFndw (tag : Byte) (ident : LotId) (wafer : Byte) (s : State) : Result :=
  engineCommand (.fndw tag ident wafer) (fndwItem (.fndw tag ident wafer) tag ident wafer) s

/-! ### RDCL (R38) -/

/-- R38: the item of an RDCL. -/
def rdclWork (c : Instr) (tag y x count : Byte) (i : Fin 64) (s : State) : Item :=
  let sl := s.slots[i]
  if sl.inUse = false then .refuse c tag .wrongState s
  else if y.toNat < sl.rows ∧ x.toNat < sl.cols then
    let n := servedCells sl x.toNat count.toNat
    .ok c tag ([sl.state.code, y, x] ++ be1 n ++
      (List.range n).flatMap fun k => (sl.cell (y.toNat * sl.cols + x.toNat + k)).record) s
  else .refuse c tag .range s

/-- RDCL (R38): read cells. -/
def execRdcl (tag slot y x count : Byte) (s : State) : Result :=
  engineCommand (.rdcl tag slot y x count)
    (slotItem (.rdcl tag slot y x count) tag slot (rdclWork (.rdcl tag slot y x count) tag y x count)) s

/-! ### WSUM (R114, R115) -/

/-- R115, R195: the fields of a WSUM answer for a slot, serving soft bins `first` to `last`. -/
def wsumFields (sl : Slot) (r : Recipe) (first last : Nat) : List Byte :=
  let t := sl.tallies
  let g := sl.geometry.getD ⟨0, 0, false⟩
  let id := match sl.identity with | some d => be1 d.lot.val ++ be1 d.wafer | none => [0xFF, 0]
  let rc := match sl.recipe with | some k => be1 k.val | none => [0xFF]
  [sl.state.code] ++ id ++ rc ++ be2 g.rows ++ be2 g.cols ++ be3 sl.mapSize ++ be3 t.tested ++ be3 t.passed ++
    be2 t.yield ++ (rollups r t).flatMap be3 ++ be1 first ++ be1 last ++
    (binsFrom first last).flatMap (fun b => be4 (t.counts[b] * 16384 + t.share b)) ++
    binSetBytes sl.limits.bins ++ be2 sl.shadowed ++ [sl.disposition.code] ++ finalYieldBytes sl.finalYield ++
    be4 (sl.closeSeq.getD 0) ++ word16Bytes (sl.closeDigest.getD 0) ++
    flagBytes [g.round, t.noData, sl.limits.yield == .breach, sl.limits.seen, sl.exported, sl.pinned, sl.forceHold]

/-- R114: the item of a WSUM. -/
def wsumWork (c : Instr) (tag first last : Byte) (i : Fin 64) (s : State) : Item :=
  let sl := s.slots[i]
  if binRangeOk first last = false then .refuse c tag .badField s
  else if sl.inUse = false then .refuse c tag .wrongState s
  else .ok c tag (wsumFields sl (s.recipeOfSlot i) first.toNat (lastServed 32 first last)) s

/-- WSUM (R114): wafer summary. -/
def execWsum (tag slot first last : Byte) (s : State) : Result :=
  engineCommand (.wsum tag slot first last)
    (slotItem (.wsum tag slot first last) tag slot (wsumWork (.wsum tag slot first last) tag first last)) s

/-! ### RLHD WAFER (R112) -/

/-- R112: the item of an RLHD WAFER on a slot. -/
def rlhdWaferWork (c : Instr) (tag : Byte) (i : Fin 64) (s : State) : Item :=
  let sl := s.slots[i]
  if sl.state = .closed ∧ sl.disposition = .hold then
    .ok c tag [] ((s.setSlot i { sl with disposition := .released }).setMember sl.identity
      fun m => { m with disposition := .released })
  else .refuse c tag .wrongState s

/-- RLHD_WAFER (R112): release hold of a wafer. A kind byte other than 1 (and 2) is refused BAD_FIELD (R194). -/
def execRlhdWafer (tag kind slot : Byte) (ident : LotId) (s : State) : Result :=
  engineCommand (.rlhdWafer tag kind slot ident)
    (fun s => if kind = 1 then
        slotItem (.rlhdWafer tag kind slot ident) tag slot (rlhdWaferWork (.rlhdWafer tag kind slot ident) tag) s
      else .refuse (.rlhdWafer tag kind slot ident) tag .badField s) s

end Sys2Proof.Machine
end

