-- ==== Sys2Proof/Machine/Closing.lean ====
section
/-! DEFINITION. Closing, retest and export (spec/07): CLWF, RPWF and DGST, the ends of Sweep Unit jobs, XPRT, XSTP, the
map chunks and the map end. -/

namespace Sys2Proof.Machine

/-! ### CLWF and SWEEP_END (R141 to R147) -/

/-- R142: the SWEEP job of a CLWF: every cell of the map, from a fresh register (R144). -/
def sweepJob (s : State) (i : Fin 64) (tag : Byte) : Job := ⟨.sweep, i, tag, 0, 0, 0, s.slots[i].size, 0xFFFF⟩

/-- R141, R142: the item of a CLWF. -/
def clwfWork (c : Instr) (tag : Byte) (i : Fin 64) (s : State) : Item :=
  let sl := s.slots[i]
  if sl.state ≠ .opened then .refuse c tag .wrongState s
  else if sl.busy.isSome then .refuse c tag .busy s
  else if s.sweepRoom = false then .refuse c tag .busy s
  else
    ⟨{ (s.unbindAll i).setSlot i { sl with state := .closing, busy := some .sweep } with
        jobs := s.jobs ++ [sweepJob s i tag] },
      s.alarmClears i, .acc tag c.code (be1 i.val ++ be1 s.jobs.length), []⟩

/-- CLWF (R141): close wafer. -/
def execClwf (tag slot : Byte) (s : State) : Result :=
  engineCommand (.clwf tag slot) (slotItem (.clwf tag slot) tag slot (clwfWork (.clwf tag slot) tag)) s

/-- R39: the close sequence counter after a close. -/
def nextCloseSeq (n : Nat) : Nat := min 4294967295 (n + 1)

/-- R145: the slot record a close sweep leaves, from the record after the final evaluation, the digest and the close
sequence number. -/
def Slot.closedBy (sl : Slot) (digest : Word16) (seq : Nat) : Slot :=
  { sl with
    state := .closed, busy := none
    disposition := dispositionOf sl.limits.seen
    finalYield := some sl.tallies.yield
    closeSeq := some seq
    closeDigest := some digest }

/-- R146: the fields of the DON of a CLWF. -/
def closeFields (i : Fin 64) (sl : Slot) : List Byte :=
  be1 i.val ++ finalYieldBytes sl.finalYield ++ [sl.disposition.code] ++ word16Bytes (sl.closeDigest.getD 0) ++
    be4 (sl.closeSeq.getD 0) ++ flagBytes [sl.tallies.noData]

/-- R145: the end of a SWEEP job. -/
def State.endSweep (s : State) (j : Job) (rest : List Job) : State :=
  let digest := (j.readTo s.slots[j.slot].cells j.stop).register
  let e := s.evaluateSlot j.slot
  let seq := nextCloseSeq s.closeSeq
  let sl := e.1.slots[j.slot].closedBy digest seq
  let t := { e.1.setSlot j.slot sl with closeSeq := seq, jobs := rest }
  let u := t.setMember sl.identity fun m => { m with finalYield := sl.finalYield, disposition := sl.disposition }
  (u.offerAll 0 e.2).hand [⟨j.tag, 0x17, .ok, closeFields j.slot sl⟩]

/-- SWEEP_END (R145): the running SWEEP job ends. Without one, or while the RESET pin is asserted, nothing ends. -/
def execSweepEnd (s : State) : Result :=
  match s.jobs with
  | j :: rest => if s.resetPin = false ∧ j.kind = .sweep then .next (s.endSweep j rest) else .next s
  | [] => .next s

/-! ### RPWF (R148 to R150) -/

/-- R149: the slot record of a reopened wafer before its limits are evaluated. -/
def Slot.reopened (sl : Slot) : Slot :=
  { sl with
    state := .opened, disposition := .none, closeDigest := none, finalYield := none, closeSeq := none
    exported := false
    cells := if sl.forceHold then sl.cells else sl.cells.release sl.size
    limits := { sl.limits with seen := false } }

/-- R149: the number of cells a reopen releases. -/
def Slot.releasable (sl : Slot) : Nat := if sl.forceHold then 0 else sl.cells.forcedCount sl.size

/-- R104 step 3: the breach-seen mark is set when a breach is still active. -/
def LimitStates.remark (l : LimitStates) : LimitStates := { l with seen := l.seen || l.active }

/-- R149: an accepted RPWF. -/
def reopen (c : Instr) (tag : Byte) (i : Fin 64) (s : State) : Item :=
  let sl := s.slots[i]
  let a := (s.setSlot i sl.reopened).setMember sl.identity fun m => { m with finalYield := none, disposition := .none }
  let e := a.evaluateSlot i
  let sl' := { e.1.slots[i] with limits := e.1.slots[i].limits.remark }
  ⟨e.1.setSlot i sl', e.2, .rsp tag c.code .ok (be3 sl.releasable ++ flagBytes [sl'.limits.seen]), []⟩

/-- R148: the lot entry of a slot's identity is OPEN. -/
def State.lotOpen (s : State) (id : Option Identity) : Bool :=
  match id with
  | some d => s.lots[d.lot].state == .opened
  | none => false

/-- R148: the item of an RPWF. -/
def rpwfWork (c : Instr) (tag : Byte) (i : Fin 64) (s : State) : Item :=
  let sl := s.slots[i]
  if sl.state = .exporting then .refuse c tag .busy s
  else if sl.state ≠ .closed then .refuse c tag .wrongState s
  else if sl.busy.isSome then .refuse c tag .busy s
  else if s.lotOpen sl.identity = false then .refuse c tag .lotClosed s
  else reopen c tag i s

/-- RPWF (R148): reopen wafer. -/
def execRpwf (tag slot : Byte) (s : State) : Result :=
  engineCommand (.rpwf tag slot) (slotItem (.rpwf tag slot) tag slot (rpwfWork (.rpwf tag slot) tag)) s

/-! ### DGST and DIGEST_END (R153 to R155) -/

/-- R153, R154: the item of a DGST. -/
def dgstWork (c : Instr) (tag : Byte) (start count : Word16) (i : Fin 64) (s : State) : Item :=
  let sl := s.slots[i]
  let stop := start.toNat + digestCells count
  if sl.state ≠ .opened ∧ sl.state ≠ .closed ∧ sl.state ≠ .exporting then .refuse c tag .wrongState s
  else if sl.busy.isSome then .refuse c tag .busy s
  else if s.sweepRoom = false then .refuse c tag .busy s
  else if sl.size < stop then .refuse c tag .range s
  else .accept c tag (be1 i.val ++ be1 s.jobs.length)
    { s.setSlot i { sl with busy := some .digest } with
      jobs := s.jobs ++ [⟨.digest, i, tag, start, count, start.toNat, stop, 0xFFFF⟩] }

/-- DGST (R153): digest. -/
def execDgst (tag slot : Byte) (start count : Word16) (s : State) : Result :=
  engineCommand (.dgst tag slot start count)
    (slotItem (.dgst tag slot start count) tag slot (dgstWork (.dgst tag slot start count) tag start count)) s

/-- R154: the end of a DIGEST job: the cells not yet read are read, the marker goes, the DON carries the digest. -/
def State.endDigest (s : State) (j : Job) (rest : List Job) : State :=
  let digest := (j.readTo s.slots[j.slot].cells j.stop).register
  ({ s.setSlot j.slot { s.slots[j.slot] with busy := none } with jobs := rest }).hand
    [⟨j.tag, 0x28, .ok, be1 j.slot.val ++ word16Bytes j.start ++ word16Bytes j.count ++ word16Bytes digest⟩]

/-- DIGEST_END (R154): the running DIGEST job ends. Without one, or while the RESET pin is asserted, nothing ends. -/
def execDigestEnd (s : State) : Result :=
  match s.jobs with
  | j :: rest => if s.resetPin = false ∧ j.kind = .digest then .next (s.endDigest j rest) else .next s
  | [] => .next s

/-! ### XPRT, MCH, MND and XSTP (R156 to R161) -/

/-- R158: the number of chunks of a map. -/
def chunkCount (size : Nat) : Nat := (size + 63) / 64

/-- R157, R158: the item of an XPRT. -/
def xprtWork (c : Instr) (tag : Byte) (i : Fin 64) (s : State) : Item :=
  let sl := s.slots[i]
  if s.transfer.isSome then .refuse c tag .busy s
  else if sl.state ≠ .closed then .refuse c tag .wrongState s
  else if sl.busy.isSome then .refuse c tag .busy s
  else .accept c tag (be1 i.val ++ be2 (chunkCount sl.size))
    { s.setSlot i { sl with state := .exporting, busy := some .transfer } with
      transfer := some ⟨i, tag, chunkCount sl.size, 0, 0xFFFF, false, .chunks⟩ }

/-- XPRT (R157): export map. -/
def execXprt (tag slot : Byte) (s : State) : Result :=
  engineCommand (.xprt tag slot) (slotItem (.xprt tag slot) tag slot (xprtWork (.xprt tag slot) tag)) s

/-- R159: the cells of chunk `k` of a slot's map. -/
def chunkCells (sl : Slot) (k : Nat) : List Cell :=
  (List.range' (64 * k) (min 64 (sl.size - 64 * k))).map sl.cell

/-- R159: the placing of the next chunk. -/
def State.placeChunk (s : State) (x : Transfer) : State :=
  let cells := chunkCells s.slots[x.slot] x.nextChunk
  let x' := { x with
    nextChunk := x.nextChunk + 1
    register := crcFrom x.register (cells.flatMap Cell.encoding)
    phase := if x.chunks ≤ x.nextChunk + 1 ∨ x.stop = true then .ending else .chunks }
  { s.place cl (.mch x.slot x.nextChunk cells) with transfer := some x' }

/-- MCH (R159): in phase CHUNKS the Export Unit places the next chunk when CL's outbound queue has at least 4 free
entries. Otherwise, or while the RESET pin is asserted, it waits and places nothing. -/
def execMch (s : State) : Result :=
  match s.transfer with
  | some x =>
    if s.resetPin = false ∧ x.phase = .chunks ∧ 4 ≤ s.room cl 0 then .next (s.placeChunk x) else .next s
  | none => .next s

/-- R160: the end of an export. -/
def State.endExport (s : State) (x : Transfer) : State :=
  let t := s.place cl (.mnd x.slot (if x.stop then .stopped else .complete) x.nextChunk x.register)
  ({ t.setSlot x.slot { t.slots[x.slot] with state := .closed, busy := none, exported := !x.stop } with
      transfer := none }).hand
    [⟨x.tag, 0x1C, if x.stop then .stopped else .ok, be1 x.slot.val ++ be2 x.nextChunk ++ word16Bytes x.register⟩]

/-- MND (R160): in phase ENDING the Export Unit places the map end when CL's outbound queue has at least 4 free entries,
and the export ends. Otherwise, or while the RESET pin is asserted, it waits. -/
def execMnd (s : State) : Result :=
  match s.transfer with
  | some x =>
    if s.resetPin = false ∧ x.phase = .ending ∧ 4 ≤ s.room cl 0 then .next (s.endExport x) else .next s
  | none => .next s

/-- R161: the item of an XSTP. -/
def xstpItem (c : Instr) (tag : Byte) (s : State) : Item :=
  match s.transfer with
  | none => .refuse c tag .notRunning s
  | some x =>
    .ok c tag (be1 x.slot.val ++ be2 x.nextChunk)
      { s with transfer := some { x with stop := true, phase := .ending } }

/-- XSTP (R161): stop export. -/
def execXstp (tag : Byte) (s : State) : Result := engineCommand (.xstp tag) (xstpItem (.xstp tag) tag) s

end Sys2Proof.Machine
end

