-- ==== Sys2Proof/Machine/Collating.lean ====
section
/-! DEFINITION. Collating results (spec/04): FRAME_DISCARD, TDR, CLQ and RTP from the tester links, and the overrides
FRCL, UFCL, EXCL and INCL from the host. -/

namespace Sys2Proof.Machine

/-! ### Resolution (R52) -/

/-- What the alias of a report resolves to (R52). -/
inductive Resolved where
  | malformed
  | unbound
  | notOpen
  | slot (aliasPlace : Fin 4) (i : Fin 64)
  deriving DecidableEq, Repr

/-- R52: the alias of a frame from tester link `n`. -/
def State.resolve (s : State) (n : Fin 12) (aliasNo : Byte) : Resolved :=
  match aliasOf aliasNo with
  | none => .malformed
  | some a =>
    match s.testers[n].bindings[a].slot with
    | none => .unbound
    | some i => if s.slots[i].state = .opened then .slot a i else .notOpen

/-- R79: the advice of a frame that resolved through an alias entry to a slot. -/
def State.adviceFor (s : State) (n : Fin 12) (a : Fin 4) (i : Fin 64) : Advice :=
  adviceOf s.stopAll s.testers[n].bindings[a].alarm (s.recipeOfSlot i) s.slots[i].limits

/-! ### FRAME_DISCARD (R65) -/

/-- The error of a frame that R65 discards. -/
def discardError (n : Fin 12) (body : List Byte) : Option LinkError :=
  match decodeReport n body with
  | .command _ => none
  | .unknownType => some .type
  | .wrongLength => some .length

/-- FRAME_DISCARD (R65, R170): the taken frame is of an unknown type or of a wrong length; it is discarded with a TYPE or
LENGTH error and gets no answer. -/
def execFrameDiscard (n : Fin 12) (s : State) : Result :=
  match (s.nextFrame n).bind (discardError n) with
  | some e => .next ((s.takeFrame n).linkError (tl n) e)
  | none => .next s

/-! ### TDR (R67 to R80) -/

/-- R68 to R71: the posting of bin `b` to the cell of an index, through tester link `n` and a site. -/
def postCell (r : Recipe) (src : Source) (i : Nat) (b : Fin 64) (w : Wafer) : Wafer × SiteOutcome :=
  let c := w.slot.cell i
  match c.status with
  | .excluded => (w, .excluded)
  | .forced => ({ w with slot := { w.slot with shadowed := bump 65535 w.slot.shadowed } }, .shadowed)
  | .untested => ((w.write i ⟨.tested, b, 1, some src⟩).tally (Tallies.add r b), .appliedNew)
  | .tested =>
    if r.scalars.attemptLimit ≤ c.attempts then (w, .exhausted)
    else
      let k := r.keptBin c.bin b
      let w' := w.write i ⟨.tested, k, c.attempts + 1, some src⟩
      if k = c.bin then (w', .kept) else (w'.tally (Tallies.move r c.bin k), .appliedRetest)

/-- R53, R68: one site result of a report. -/
def applySite (r : Recipe) (n : Fin 12) (sites : Vector SiteEntry 32) (x0 y0 : Int) (p : Nat × Nat) (w : Wafer) :
    Wafer × SiteOutcome :=
  match placeOf sites w.slot x0 y0 p.1 with
  | .siteOff => (w, .siteOff)
  | .offMap => (w, .offMap)
  | .cell site i =>
    match r.binOf p.2 with
    | none => (w, .badBin)
    | some b => postCell r ⟨n, site⟩ i b w

/-- R75: the site results in the order listed, each on what those before it left; the outcomes in the same order. -/
def applySites (r : Recipe) (n : Fin 12) (sites : Vector SiteEntry 32) (x0 y0 : Int) :
    List (Nat × Nat) → Wafer → Wafer × List SiteOutcome
  | [], w => (w, [])
  | p :: rest, w =>
    let a := applySite r n sites x0 y0 p w
    let b := applySites r n sites x0 y0 rest a.1
    (b.1, a.2 :: b.2)

/-- R56: the soft bins that count toward the run state: those posted with a counted outcome, in order. -/
def countedBins (r : Recipe) (results : List (Nat × Nat)) (outcomes : List SiteOutcome) : List (Fin 64) :=
  (results.zip outcomes).filterMap fun p => if p.2.taken then r.binOf p.1.2 else none

/-- R56, R57: the run state of an entry bound to slot `i` takes the counted bins in order; the step that sets the alarm
offers RUN_ALARM ENTER. -/
def runSteps (r : Recipe) (n : Fin 12) (a : Fin 4) (i : Fin 64) : List (Fin 64) → Binding → Binding × List Alert
  | [], e => (e, [])
  | b :: rest, e =>
    let e' := runStep r e b
    let now := if e.alarm = false ∧ e'.alarm = true then [Alert.runAlarm .enter n (a.val + 1) i b] else []
    let more := runSteps r n a i rest e'
    (more.1, now ++ more.2)

/-- R67: the form of a TDR: the result count is 1 to 32, and the body holds two bytes for each announced result. -/
def tdrFormOk (count : Byte) (results : List Byte) : Bool :=
  decide (1 ≤ count.toNat ∧ count.toNat ≤ 32 ∧ results.length = 2 * count.toNat)

/-- R67, R80: the TDA of a report that ends unresolved. -/
def tdaStop (aliasNo : Byte) (verdict : Verdict) (s : State) : Report := ⟨s, [], .tda aliasNo verdict .stop []⟩

/-- R68 to R80: a resolved report: the site results, the limit evaluations, the run state, the advice, the TDA. -/
def tdrApply (n : Fin 12) (aliasNo : Byte) (x0 y0 : Word16) (results : List Byte) (a : Fin 4) (i : Fin 64)
    (s : State) : Report :=
  let r := s.recipeOfSlot i
  let posts := siteResults results
  let p := applySites r n s.testers[n].sites x0.toInt y0.toInt posts (s.wafer i)
  let t := s.settle i p.1
  let e := runSteps r n a i (countedBins r posts p.2) s.testers[n].bindings[a]
  let u := t.1.setBinding n a e.1
  ⟨u, t.2 ++ e.2, .tda aliasNo (if p.2.any SiteOutcome.taken then .ok else .noneTaken) (u.adviceFor n a i) p.2⟩

/-- R67, R68: the item of a TDR. -/
def tdrItem (n : Fin 12) (aliasNo : Byte) (x0 y0 : Word16) (count : Byte) (results : List Byte) (s : State) :
    Report :=
  if tdrFormOk count results then
    match s.resolve n aliasNo with
    | .malformed => tdaStop aliasNo .malformed s
    | .unbound => tdaStop aliasNo .unbound s
    | .notOpen => tdaStop aliasNo .notOpen s
    | .slot a i => tdrApply n aliasNo x0 y0 results a i s
  else tdaStop aliasNo .malformed s

/-- TDR (R68): the engine takes a touchdown report. -/
def execTdr (n : Fin 12) (aliasNo : Byte) (x0 y0 : Word16) (count : Byte) (results : List Byte) (s : State) : Result :=
  engineReport n (.tdr n aliasNo x0 y0 count results) (tdrItem n aliasNo x0 y0 count results) s

/-! ### CLQ and RTP (R81 to R84) -/

/-- R81: the CLA of every result but OK: UNTESTED, bin 0, attempts 0, retest not allowed. -/
def claNone (aliasNo : Byte) (result : Verdict) (advice : Advice) (s : State) : Report :=
  ⟨s, [], .cla aliasNo result advice Cell.blank false⟩

/-- R81: the item of a CLQ. -/
def clqItem (n : Fin 12) (aliasNo x y : Byte) (s : State) : Report :=
  match s.resolve n aliasNo with
  | .malformed => claNone aliasNo .malformed .stop s
  | .unbound => claNone aliasNo .unbound .stop s
  | .notOpen => claNone aliasNo .notOpen .stop s
  | .slot a i =>
    let sl := s.slots[i]
    if x.toNat < sl.cols ∧ y.toNat < sl.rows then
      let c := sl.cell (y.toNat * sl.cols + x.toNat)
      ⟨s, [], .cla aliasNo .ok (s.adviceFor n a i) c ((s.recipeOfSlot i).retestAllowed c)⟩
    else claNone aliasNo .offMap (s.adviceFor n a i) s

/-- CLQ (R81): the engine takes a cell query. -/
def execClq (n : Fin 12) (aliasNo x y : Byte) (s : State) : Result :=
  engineReport n (.clq n aliasNo x y) (clqItem n aliasNo x y) s

/-- R83: the indices of the retest-allowed cells of a slot's map from a start index on, ascending. -/
def retestCells (r : Recipe) (sl : Slot) (start : Nat) : List Nat :=
  (List.range' start (sl.size - start)).filter fun i => r.retestAllowed (sl.cell i)

/-- R84: the continuation: END when every retest-allowed cell from the start is listed, else one above the last
listed. -/
def continuation (all listed : List Nat) : Option Nat :=
  if all.length ≤ listed.length then none else listed.getLast?.map (· + 1)

/-- R83: the RTA of a lookup that ends unresolved. -/
def rtaStop (aliasNo : Byte) (result : Verdict) (s : State) : Report := ⟨s, [], .rta aliasNo result .stop none []⟩

/-- R83, R84: the item of an RTP. -/
def rtpItem (n : Fin 12) (aliasNo : Byte) (start : Word16) (maxCount : Byte) (s : State) : Report :=
  match s.resolve n aliasNo with
  | .malformed => rtaStop aliasNo .malformed s
  | .unbound => rtaStop aliasNo .unbound s
  | .notOpen => rtaStop aliasNo .notOpen s
  | .slot a i =>
    let sl := s.slots[i]
    let all := retestCells (s.recipeOfSlot i) sl start.toNat
    let listed := all.take (clampRange 1 16 maxCount.toNat)
    ⟨s, [], .rta aliasNo .ok (s.adviceFor n a i) (continuation all listed)
      (listed.map fun k => (k % sl.cols, k / sl.cols))⟩

/-- RTP (R83): the engine takes a retest pick. -/
def execRtp (n : Fin 12) (aliasNo : Byte) (start : Word16) (maxCount : Byte) (s : State) : Result :=
  engineReport n (.rtp n aliasNo start maxCount) (rtpItem n aliasNo start maxCount) s

/-! ### Overrides (R85 to R92) -/

/-- R85: the slot checks of an override: a slot number 0 to 63 and a slot in OPEN. -/
def overrideItem (c : Instr) (tag slot : Byte) (work : Fin 64 → State → Item) (s : State) : Item :=
  match slotOf slot with
  | none => .refuse c tag .badField s
  | some i => if s.slots[i].state = .opened then work i s else .refuse c tag .wrongState s

/-- R87: the cell of an index is forced to bin `b`. -/
def forceCell (r : Recipe) (i : Nat) (b : Fin 64) (w : Wafer) : Wafer :=
  let c := w.slot.cell i
  let w' := w.write i ⟨.forced, b, c.attempts, none⟩
  match c.status with
  | .untested => w'.tally (Tallies.add r b)
  | .tested | .forced => if c.bin = b then w' else w'.tally (Tallies.move r c.bin b)
  | .excluded => w

/-- R86, R87: the item of an FRCL on an OPEN slot. -/
def frclWork (c : Instr) (tag x y bin : Byte) (i : Fin 64) (s : State) : Item :=
  let sl := s.slots[i]
  let r := s.recipeOfSlot i
  if x.toNat < sl.cols ∧ y.toNat < sl.rows then
    let k := y.toNat * sl.cols + x.toNat
    let old := sl.cell k
    if old.status = .excluded then .refuse c tag .excludedCell s
    else match r.binOf bin.toNat with
      | none => .refuse c tag .badBin s
      | some b =>
        let t := s.settle i (forceCell r k b (s.wafer i))
        ⟨t.1, t.2, .rsp tag c.code .ok (be1 old.status.code ++ be1 old.bin.val), []⟩
  else .refuse c tag .range s

/-- FRCL (R86): force cell. -/
def execFrcl (tag slot x y bin : Byte) (s : State) : Result :=
  engineCommand (.frcl tag slot x y bin)
    (overrideItem (.frcl tag slot x y bin) tag slot (frclWork (.frcl tag slot x y bin) tag x y bin)) s

/-- R88: the item of a UFCL on an OPEN slot. -/
def ufclWork (c : Instr) (tag x y : Byte) (i : Fin 64) (s : State) : Item :=
  let sl := s.slots[i]
  if x.toNat < sl.cols ∧ y.toNat < sl.rows then
    let k := y.toNat * sl.cols + x.toNat
    let old := sl.cell k
    if old.status = .forced then
      .ok c tag [] (s.commit i ((s.wafer i).write k { old with status := .tested, source := none }))
    else .refuse c tag .notForced s
  else .refuse c tag .range s

/-- UFCL (R88): unforce cell. -/
def execUfcl (tag slot x y : Byte) (s : State) : Result :=
  engineCommand (.ufcl tag slot x y)
    (overrideItem (.ufcl tag slot x y) tag slot (ufclWork (.ufcl tag slot x y) tag x y)) s

/-- R90: the cell of an index is excluded when it is not EXCLUDED already. -/
def excludeCell (r : Recipe) (i : Nat) (w : Wafer) : Wafer :=
  let c := w.slot.cell i
  let w' := w.write i Cell.excludedCell
  let w' := { w' with slot := { w'.slot with mapSize := w'.slot.mapSize - 1 } }
  match c.status with
  | .excluded => w
  | .untested => w'
  | .tested | .forced => w'.tally (Tallies.remove r c.bin)

/-- R89, R90: the item of an EXCL on an OPEN slot. -/
def exclWork (c : Instr) (tag x1 y1 x2 y2 : Byte) (i : Fin 64) (s : State) : Item :=
  let sl := s.slots[i]
  let r := s.recipeOfSlot i
  let cells := rectangle sl x1.toNat y1.toNat x2.toNat y2.toNat
  let t := s.settle i (cells.foldl (fun w k => excludeCell r k w) (s.wafer i))
  ⟨t.1, t.2, .rsp tag c.code .ok
    (be3 (cells.countP fun k => (sl.cell k).status != .excluded) ++
      be3 (cells.countP fun k => (sl.cell k).status == .tested || (sl.cell k).status == .forced)), []⟩

/-- EXCL (R89): exclude rectangle. -/
def execExcl (tag slot x1 y1 x2 y2 : Byte) (s : State) : Result :=
  engineCommand (.excl tag slot x1 y1 x2 y2)
    (overrideItem (.excl tag slot x1 y1 x2 y2) tag slot (exclWork (.excl tag slot x1 y1 x2 y2) tag x1 y1 x2 y2)) s

/-- R91: the cell of an index is included when it is EXCLUDED. -/
def includeCell (i : Nat) (w : Wafer) : Wafer :=
  if (w.slot.cell i).status = .excluded then
    let w' := w.write i Cell.blank
    { w' with slot := { w'.slot with mapSize := w'.slot.mapSize + 1 } }
  else w

/-- R91: the item of an INCL on an OPEN slot. -/
def inclWork (c : Instr) (tag x1 y1 x2 y2 : Byte) (i : Fin 64) (s : State) : Item :=
  let sl := s.slots[i]
  let cells := rectangle sl x1.toNat y1.toNat x2.toNat y2.toNat
  .ok c tag (be3 (cells.countP fun k => (sl.cell k).status == .excluded))
    (s.commit i (cells.foldl (fun w k => includeCell k w) (s.wafer i)))

/-- INCL (R91): include rectangle. -/
def execIncl (tag slot x1 y1 x2 y2 : Byte) (s : State) : Result :=
  engineCommand (.incl tag slot x1 y1 x2 y2)
    (overrideItem (.incl tag slot x1 y1 x2 y2) tag slot (inclWork (.incl tag slot x1 y1 x2 y2) tag x1 y1 x2 y2)) s

end Sys2Proof.Machine
end

