-- ==== Sys2Proof/Machine/Links.lean ====
section
/-! DEFINITION. The link layer (spec/08): the receiver, the inter-byte timer, the transmitter, LCTL and LSTA. -/

namespace Sys2Proof.Machine

/-! ### The receiver (R165 to R168) -/

/-- A change of one link, and the drain it may end (R171). -/
def State.setDrained (s : State) (n : Fin 13) (l : Link) : State := s.setLink n l.drained

/-- An error of the receiver on a link that has become `l`: the error event (R174, R175), then the end of a drain. -/
def State.receiverError (s : State) (n : Fin 13) (l : Link) (e : LinkError) : State :=
  (s.setDrained n l).linkError n e

/-- R168: the second check byte has arrived: the frame of a length byte, a body and check bytes is judged. -/
def State.frameComplete (s : State) (n : Fin 13) (len : Byte) (body : List Byte) (check : Word16) : State :=
  let l := s.links[n]
  let l' := { l with receiver := l.afterFrame }
  if check ≠ frameCheck len body then s.receiverError n l' .crc
  else if l.holding.length < holdCap n then
    s.setDrained n { l' with holding := l.holding ++ [body], good := bump 65535 l.good }
  else s.receiverError n l' .overrun

/-- R165, R166: a byte is handled by the receiver according to its state. -/
def State.receive (s : State) (n : Fin 13) (b : Byte) : State :=
  let l := s.links[n]
  match l.receiver with
  | .idle => s
  | .hunt inRun =>
    if b = 0xA5 then s.setLink n { l with receiver := .length }
    else if inRun then s
    else (s.setLink n { l with receiver := .hunt true }).linkError n .framing
  | .length =>
    if 1 ≤ b.toNat ∧ b.toNat ≤ 200 then s.setLink n { l with receiver := .body b [] }
    else s.receiverError n { l with receiver := l.afterFrame } .length
  | .body len got =>
    let got' := got ++ [b]
    if got'.length < len.toNat then s.setLink n { l with receiver := .body len got' }
    else s.setLink n { l with receiver := .check len got' none }
  | .check len got none => s.setLink n { l with receiver := .check len got (some b) }
  | .check len got (some first) => s.frameComplete n len got (word16 first b)

/-- BYTE_RECEIVED (R165): a byte arrives on a link. While the RESET pin is asserted it is dropped uncounted (R178). -/
def execByteReceived (n : Fin 13) (b : Byte) (s : State) : Result :=
  if s.resetPin then .next s else .next (s.receive n b)

/-- INTER_BYTE_TIMEOUT (R167): the timer expires in LENGTH, BODY or CHECK: the frame in assembly is discarded. In HUNT
and IDLE the timer does not run, and nothing expires. -/
def execInterByteTimeout (n : Fin 13) (s : State) : Result :=
  let l := s.links[n]
  if s.resetPin = false ∧ l.receiver.inFrame = true then
    .next (s.receiverError n { l with receiver := l.afterFrame } .timeout)
  else .next s

/-! ### The transmitter (R177) -/

/-- R177: the head message has been sent: its entry is free, and the next message begins at the link's present rate
(R173). -/
def Link.sent (l : Link) : Link :=
  { l with outbound := l.outbound.tail
           lineRate := if l.outbound.tail.isEmpty then none else some l.rate }

/-- MESSAGE_SENT (R177): the last byte of the frame on a link's line is sent. With nothing queued, or while the RESET pin
is asserted, nothing is sent. -/
def execMessageSent (n : Fin 13) (s : State) : Result :=
  match s.links[n].outbound with
  | m :: _ =>
    if s.resetPin then .next s
    else .next { s.setLink n s.links[n].sent with lastSent := some (n, frame m.body) }
  | [] => .next s

/-! ### LCTL (R172, R173) -/

/-- A command the interpreter serves with a refusal (R172, R182). -/
def refuseServed (c : Instr) (tag : Byte) (status : Status) (s : State) : State × Message :=
  (s, .rsp tag c.code status [])

/-- A command the interpreter serves with RSP OK (R172, R182). -/
def okServed (c : Instr) (tag : Byte) (fields : List Byte) (s : State) : State × Message :=
  (s, .rsp tag c.code .ok fields)

/-- An LCTL that names a tester link, 0 to 11 (BAD_FIELD otherwise; R172). -/
def lctlWork (c : Instr) (tag link : Byte) (work : Fin 12 → State → State × Message) (s : State) : State × Message :=
  match testerOf link with
  | none => refuseServed c tag .badField s
  | some n => work n s

/-- R172: an action on the link's state, answered with the state after it and the number of frames discarded. -/
def lctlAct (c : Instr) (tag : Byte) (act : Link → Link) (discarded : Link → Nat) (n : Fin 12) (s : State) :
    State × Message :=
  let l := s.links[tl n]
  okServed c tag ([(act l).state.code] ++ be1 (discarded l)) (s.setLink (tl n) (act l))

/-- R172, start: from STOPPED the receiver enters HUNT; from DRAINING a frame in BODY or CHECK goes on and an IDLE
receiver enters HUNT; in RUNNING nothing changes. -/
def Link.start (l : Link) : Link :=
  match l.state with
  | .running => l
  | .stopped => { l with state := .running, receiver := .hunt false }
  | .draining => { l with state := .running, receiver := if l.receiver = .idle then .hunt false else l.receiver }

/-- R172, stop-drain: from RUNNING the link drains: a frame in LENGTH is discarded and counted, HUNT becomes IDLE, a
frame in BODY or CHECK goes on; the link is STOPPED at once when nothing is left (R171). -/
def Link.stopDrain (l : Link) : Link :=
  match l.state with
  | .running =>
    let l' := match l.receiver with
      | .length => { l with receiver := .idle, discards := bump 255 l.discards }
      | .hunt _ => { l with receiver := .idle }
      | .idle | .body _ _ | .check _ _ _ => l
    { l' with state := .draining }.drained
  | .stopped | .draining => l

/-- R172: the number of frames stop-drain discards. -/
def Link.stopDrainDiscards (l : Link) : Nat := if l.state = .running ∧ l.receiver = .length then 1 else 0

/-- R172, stop-force: from RUNNING and DRAINING every frame is discarded and the link is STOPPED. -/
def Link.stopForce (l : Link) : Link := if l.state = .stopped then l else l.discardAll

/-- R172: the number of frames stop-force discards. -/
def Link.stopForceDiscards (l : Link) : Nat := if l.state = .stopped then 0 else l.discardable

/-- R173, restart: discards as stop-force does, clears the last error and the counters, and the link is RUNNING with its
receiver in HUNT. -/
def Link.restart (l : Link) : Link :=
  { l.discardAll with state := .running, receiver := .hunt false, lastError := .none
                      good := 0, bad := 0, overruns := 0, discards := 0 }

/-- R172: the six LCTL actions are numbered 0 to 5 (R194). -/
def lctlActionOk (action : Byte) : Bool := decide (action.toNat ≤ 5)

/-- LCTL_START (R172). An action code that names none of the six is refused BAD_FIELD. -/
def execLctlStart (tag link action value : Byte) (s : State) : Result :=
  serveCommand (.lctlStart tag link action value)
    (fun s => if lctlActionOk action then
        lctlWork (.lctlStart tag link action value) tag link
          (lctlAct (.lctlStart tag link action value) tag Link.start fun _ => 0) s
      else refuseServed (.lctlStart tag link action value) tag .badField s) s

/-- LCTL_STOP_DRAIN (R172). -/
def execLctlStopDrain (tag link value : Byte) (s : State) : Result :=
  serveCommand (.lctlStopDrain tag link value)
    (lctlWork (.lctlStopDrain tag link value) tag link
      (lctlAct (.lctlStopDrain tag link value) tag Link.stopDrain Link.stopDrainDiscards)) s

/-- LCTL_STOP_FORCE (R172). -/
def execLctlStopForce (tag link value : Byte) (s : State) : Result :=
  serveCommand (.lctlStopForce tag link value)
    (lctlWork (.lctlStopForce tag link value) tag link
      (lctlAct (.lctlStopForce tag link value) tag Link.stopForce Link.stopForceDiscards)) s

/-- LCTL_RESTART (R173). -/
def execLctlRestart (tag link value : Byte) (s : State) : Result :=
  serveCommand (.lctlRestart tag link value)
    (lctlWork (.lctlRestart tag link value) tag link
      (lctlAct (.lctlRestart tag link value) tag Link.restart Link.discardable)) s

/-- R173, set mode. -/
def setModeWork (c : Instr) (tag value : Byte) (n : Fin 12) (s : State) : State × Message :=
  match modeOf value with
  | some m => okServed c tag [s.links[tl n].state.code] (s.setLink (tl n) { s.links[tl n] with mode := m })
  | none => refuseServed c tag .badField s

/-- LCTL_SET_MODE (R173). -/
def execLctlSetMode (tag link value : Byte) (s : State) : Result :=
  serveCommand (.lctlSetMode tag link value)
    (lctlWork (.lctlSetMode tag link value) tag link (setModeWork (.lctlSetMode tag link value) tag value)) s

/-- R173, set rate: only a STOPPED link takes a rate; the message on the line keeps the rate it was begun at. -/
def setRateWork (c : Instr) (tag value : Byte) (n : Fin 12) (s : State) : State × Message :=
  match rateOf value with
  | some r =>
    if s.links[tl n].state = .stopped then okServed c tag [] (s.setLink (tl n) { s.links[tl n] with rate := r })
    else refuseServed c tag .busy s
  | none => refuseServed c tag .badField s

/-- LCTL_SET_RATE (R173). -/
def execLctlSetRate (tag link value : Byte) (s : State) : Result :=
  serveCommand (.lctlSetRate tag link value)
    (lctlWork (.lctlSetRate tag link value) tag link (setRateWork (.lctlSetRate tag link value) tag value)) s

/-! ### LSTA (R176) -/

/-- R176: the fields of an LSTA answer; an answer to CL's own status counts the entry that it will fill. -/
def lstaFields (n : Fin 13) (l : Link) : List Byte :=
  [l.state.code, l.mode.code, l.rate.code, l.receiver.code] ++ be1 l.holding.length ++
    be1 (l.outbound.length + (if n = cl then 1 else 0)) ++ [l.lastError.code] ++ be2 l.good ++ be1 l.bad ++
    be1 l.overruns ++ be1 l.discards

/-- R174, R176: LSTA clears the last error and the counters. -/
def Link.cleared (l : Link) : Link :=
  { l with lastError := .none, good := 0, bad := 0, overruns := 0, discards := 0 }

/-- LSTA (R176): link status. -/
def execLsta (tag link : Byte) (s : State) : Result :=
  serveCommand (.lsta tag link)
    (fun s => match linkOf link with
      | none => refuseServed (.lsta tag link) tag .badField s
      | some n => okServed (.lsta tag link) tag (lstaFields n s.links[n]) (s.setLink n s.links[n].cleared)) s

end Sys2Proof.Machine
end

