-- ==== Sys2Proof/Machine/Interpreter.lean ====
section
/-! DEFINITION. Messages and commands (spec/09): the Command Interpreter's take, completions, ASTA, stop-all and
clear-all. -/

namespace Sys2Proof.Machine

/-! ### COMMAND_TAKE and DON (R180, R184) -/

/-- R180: what the examination of a frame taken from CL makes: the current command, or an error on link 12. -/
def State.examine (s : State) (d : Decoded) : State :=
  match d with
  | .command c => { s with current := some c }
  | .unknownType => s.linkError cl .type
  | .wrongLength => s.linkError cl .length

/-- COMMAND_TAKE (R180): with no current command the interpreter takes the head frame of CL's holding queue. With a
current command, with no frame held, or while the RESET pin is asserted, it takes nothing. -/
def execCommandTake (s : State) : Result :=
  match s.links[cl].holding with
  | body :: rest =>
    if s.resetPin = false ∧ s.current = none then
      .next ((s.setLink cl { s.links[cl] with holding := rest }).examine (decodeCommand body))
    else .next s
  | [] => .next s

/-- DON (R184): the interpreter places the DON at the head of the completion list when CL's outbound queue has a free
entry. Otherwise, or while the RESET pin is asserted, the DON waits. -/
def execDon (s : State) : Result :=
  match s.completions with
  | d :: rest =>
    if s.resetPin = false ∧ 1 ≤ s.room cl 0 then .next { s.place cl (.don d) with completions := rest } else .next s
  | [] => .next s

/-! ### ASTA (R188) -/

/-- R188: the entries of a list served from a first number: up to 8. -/
def astaPage {n : Nat} (list : List (Fin n)) (first : Nat) : List (Fin n) :=
  (list.filter fun i => decide (first ≤ i.val)).take 8

/-- R188: the next number: one above the last entry served, or END (0xFF, R193) when no entry of the list lies beyond
it. -/
def astaNext {n : Nat} (list : List (Fin n)) (first : Nat) : Byte :=
  match (astaPage list first).getLast? with
  | some i => if list.any (fun j => decide (i.val < j.val)) then BitVec.ofNat 8 (i.val + 1) else 0xFF
  | none => 0xFF

/-- R188, R193: the fields of an ASTA answer: the entries, the next number where there is one, the number of entries of
each list, and then the yes/no fields: the entries' yield breaches, the stop-all flag and the dropped-alert mark. -/
def astaFields (s : State) (entries : List Byte) (next : List Byte) (yields : List Bool) : List Byte :=
  entries ++ next ++ be1 s.breachedSlots.length ++ be1 s.breachedLots.length ++ be1 s.alarms.length ++
    be1 s.failedLinks.length ++ flagBytes (yields ++ [s.stopAll, s.dropped])

/-- R188, SLOTS. -/
def astaSlots (s : State) (first : Nat) : List Byte :=
  let page := astaPage s.breachedSlots first
  astaFields s (be1 page.length ++ page.flatMap fun i => be1 i.val ++ binSetBytes s.slots[i].limits.bins)
    [astaNext s.breachedSlots first] (page.map fun i => s.slots[i].limits.yield == .breach)

/-- R188, LOTS. -/
def astaLots (s : State) (first : Nat) : List Byte :=
  let page := astaPage s.breachedLots first
  astaFields s (be1 page.length ++ page.flatMap fun k => be1 k.val ++ binSetBytes s.lots[k].limits.bins)
    [astaNext s.breachedLots first] (page.map fun k => s.lots[k].limits.yield == .breach)

/-- R188, BINDINGS: link, alias and slot of every entry whose run alarm is yes. -/
def astaBindings (s : State) : List Byte :=
  astaFields s (be1 s.alarms.length ++ s.alarms.flatMap fun p =>
    be1 p.1.val ++ be1 (p.2.val + 1) ++ [slotByte s.testers[p.1].bindings[p.2].slot]) [] []

/-- R188, LINKS: link and code of every link whose last error is not NONE. -/
def astaLinks (s : State) : List Byte :=
  astaFields s (be1 s.failedLinks.length ++ s.failedLinks.flatMap fun n =>
    be1 n.val ++ [s.links[n].lastError.code]) [] []

/-- R188: the fields an ASTA answers for a selector; absent for a selector that names no list. -/
def astaAnswer (s : State) (selector first : Byte) : Option (List Byte) :=
  match selector.toNat with
  | 1 => some (astaSlots s first.toNat)
  | 2 => some (astaLots s first.toNat)
  | 3 => some (astaBindings s)
  | 4 => some (astaLinks s)
  | _ => none

/-- ASTA (R188): alert status; the dropped-alert mark becomes no after the answer is formed. -/
def execAsta (tag selector first : Byte) (s : State) : Result :=
  serveCommand (.asta tag selector first)
    (fun s => match astaAnswer s selector first with
      | some fields => okServed (.asta tag selector first) tag fields { s with dropped := false }
      | none => refuseServed (.asta tag selector first) tag .badField s) s

/-! ### Stop-all (R189) -/

/-- STPA (R189): stop all, answered with the flag's value before. -/
def execStpa (tag : Byte) (s : State) : Result :=
  serveCommand (.stpa tag) (fun s => okServed (.stpa tag) tag (flagBytes [s.stopAll]) { s with stopAll := true }) s

/-- RSMA (R189): resume all, answered with the flag's value before. -/
def execRsma (tag : Byte) (s : State) : Result :=
  serveCommand (.rsma tag) (fun s => okServed (.rsma tag) tag (flagBytes [s.stopAll]) { s with stopAll := false }) s

/-! ### CLRA (R190, R191, R42, R44, R123, R147, R161) -/

/-- R190 step 1: the CANCELLED DON of an export in flight. -/
def cancelTransfer (x : Transfer) : Done := ⟨x.tag, 0x1C, .cancelled, be1 x.slot.val ++ be2 x.nextChunk⟩

/-- R190 step 2: the CANCELLED DON of a Sweep Unit job. -/
def cancelJob (j : Job) : Done :=
  ⟨j.tag, match j.kind with | .sweep => 0x17 | .digest => 0x28, .cancelled, be1 j.slot.val⟩

/-- R190 step 3: the CANCELLED DONs of the pending opens, in ascending slot number. -/
def cancelOpens (s : State) : List Done :=
  (List.finRange 64).filterMap fun i =>
    if s.slots[i].state = .clearing then
      s.slots[i].pendingOpen.map fun o => ⟨o.tag, 0x16, .cancelled, be1 i.val⟩
    else none

/-- R191 step 5: the CANCELLED DONs of the RETIRING entries, in ascending entry number. -/
def cancelRetirements (s : State) : List Done :=
  (List.finRange 16).filterMap fun k =>
    if s.lots[k].state = .retiring then
      s.lots[k].retirement.map fun t => ⟨t.tag, 0x14, .cancelled, be1 k.val⟩
    else none

/-- R190, R191: the CANCELLED DONs a CLRA hands, in order. -/
def cancelled (s : State) : List Done :=
  (s.transfer.map cancelTransfer).toList ++ s.jobs.map cancelJob ++ cancelOpens s ++ cancelRetirements s

/-- R42: a slot after CLRA: FREE stays; CLEARING stays without pending open and identity; any other enters CLEARING. -/
def clearedSlot (sl : Slot) : Slot :=
  match sl.state with
  | .free => sl
  | .clearing => { sl with pendingOpen := none, identity := none }
  | .opened | .closing | .closed | .exporting => Slot.empty .clearing sl.cells

/-- R42, R191 step 6: the slots that enter CLEARING at a CLRA, ascending. -/
def State.usedSlots (s : State) : List (Fin 64) := (List.finRange 64).filter fun i => s.slots[i].inUse

/-- R190, R191: the records after a CLRA. -/
def clearAll (s : State) : State :=
  { s with
    staging   := none
    testers   := Vector.ofFn fun n => { s.testers[n] with bindings := Vector.replicate 4 Binding.unbound }
    lots      := Vector.replicate 16 Lot.free
    slots     := Vector.ofFn fun i => clearedSlot s.slots[i]
    clearList := s.clearList ++ s.usedSlots
    directory := []
    pinCount  := 0
    closeSeq  := 0
    jobs      := []
    transfer  := none
    stopAll   := false }

/-- R190, R191: the item of a CLRA. -/
def clraItem (c : Instr) (tag : Byte) (s : State) : Item :=
  ⟨clearAll s, [], .rsp tag c.code .ok (be1 (cancelled s).length), cancelled s⟩

/-- CLRA (R190): clear all. -/
def execClra (tag : Byte) (s : State) : Result := engineCommand (.clra tag) (clraItem (.clra tag) tag) s

end Sys2Proof.Machine
end

