-- ==== Sys2Proof/Machine/Lots.lean ====
section
/-! DEFINITION. Lots (spec/06): OPLT, CLLT, RTLT, LSUM and the LOT form of RLHD. -/

namespace Sys2Proof.Machine

/-- A command that names its lot by identifier (NO_LOT when none matches; R126). -/
def lotItem (c : Instr) (tag : Byte) (ident : LotId) (work : Fin 16 → State → Item) (s : State) : Item :=
  match s.findLot ident with
  | none => .refuse c tag .noLot s
  | some k => work k s

/-! ### OPLT (R124, R125) -/

/-- R125: the entry an OPLT sets. -/
def Lot.fresh (ident : LotId) (r : Fin 8) : Lot :=
  { Lot.free with state := .opened, ident := some ident, recipe := some r }

/-- R124, R125: the item of an OPLT. -/
def opltItem (c : Instr) (tag : Byte) (ident : LotId) (recipe : Byte) (s : State) : Item :=
  match recipeOf recipe with
  | none => .refuse c tag .badField s
  | some r =>
    if ident.all printable = false then .refuse c tag .badField s
    else if (s.findLot ident).isSome then .refuse c tag .duplicate s
    else match (List.finRange 16).find? fun k => s.lots[k].state == .free with
      | none => .refuse c tag .lotTableFull s
      | some k =>
        if s.recipes[r].state = .valid then .ok c tag (be1 k.val) (s.setLot k (Lot.fresh ident r))
        else .refuse c tag .badRecipe s

/-- OPLT (R124): open lot. -/
def execOplt (tag : Byte) (ident : LotId) (recipe : Byte) (s : State) : Result :=
  engineCommand (.oplt tag ident recipe) (opltItem (.oplt tag ident recipe) tag ident recipe) s

/-! ### CLLT (R129, R130) -/

/-- R129: a member that stops CLLT: opening, or holding a slot in OPEN or CLOSING. -/
def State.memberActive (s : State) (m : Member) : Bool :=
  m.opening || (match m.slot with
    | some i => s.slots[i].state == .opened || s.slots[i].state == .closing
    | none => false)

/-- R130: the answer of a CLLT. -/
def clltFields (l : Lot) : List Byte :=
  [l.disposition.code] ++ be3 l.totals.tested ++ be3 l.totals.passed ++ be2 l.totals.yield ++
    flagBytes [l.totals.noData]

/-- R129, R130: the item of a CLLT on a lot entry. -/
def clltWork (c : Instr) (tag : Byte) (k : Fin 16) (s : State) : Item :=
  if s.lots[k].state ≠ .opened then .refuse c tag .wrongState s
  else if s.lots[k].members.any s.memberActive then .refuse c tag .membersActive s
  else
    let e := s.evaluateLot k
    let l := e.1.lots[k]
    let l' := { l with
      state := .closed
      disposition := dispositionOf (l.limits.seen || l.members.any fun m => m.disposition == .hold) }
    ⟨e.1.setLot k l', e.2, .rsp tag c.code .ok (clltFields l'), []⟩

/-- CLLT (R129): close lot. -/
def execCllt (tag : Byte) (ident : LotId) (s : State) : Result :=
  engineCommand (.cllt tag ident) (lotItem (.cllt tag ident) tag ident (clltWork (.cllt tag ident) tag)) s

/-! ### RTLT (R133, R134) -/

/-- The slots a lot's member entries hold, ascending (R121, R134). -/
def Lot.memberSlots (l : Lot) : List (Fin 64) :=
  (List.finRange 64).filter fun i => l.members.any fun m => m.slot == some i

/-- R133: a member slot that stops RTLT: EXPORTING, or carrying a busy marker. -/
def Slot.held (sl : Slot) : Bool := sl.state == .exporting || sl.busy.isSome

/-- R133, R134: the item of an RTLT on a lot entry. -/
def rtltWork (c : Instr) (tag : Byte) (k : Fin 16) (s : State) : Item :=
  let slots := s.lots[k].memberSlots
  if s.lots[k].state ≠ .closed then .refuse c tag .wrongState s
  else if slots.any (fun i => s.slots[i].held) then .refuse c tag .busy s
  else if slots.isEmpty then .ok c tag (be1 0) (s.setLot k Lot.free)
  else
    let t := slots.foldl State.retire s
    .accept c tag (be1 slots.length)
      (t.setLot k { t.lots[k] with state := .retiring, retirement := some ⟨slots, tag⟩ })

/-- RTLT (R133): retire lot. -/
def execRtlt (tag : Byte) (ident : LotId) (s : State) : Result :=
  engineCommand (.rtlt tag ident) (lotItem (.rtlt tag ident) tag ident (rtltWork (.rtlt tag ident) tag)) s

/-! ### LSUM (R136, R137) -/

/-- R137: the standing of a member: OPENING 1, HELD 2, RETIRED 3 (R196). -/
def Member.standing (m : Member) : Byte := if m.retired then 3 else if m.opening then 1 else 2

/-- R137, R193: one member as served. R137 gives a slot number with standing HELD only; the model sends the slot byte for
every standing, 0xFF (R193's absent slot) for OPENING and RETIRED members, so that every member takes the same six bytes.
DEDUCED, unsafe: assumption 26. -/
def Member.fields (m : Member) : List Byte :=
  be1 m.wafer ++ [m.standing, slotByte m.slot] ++ finalYieldBytes m.finalYield ++ [m.disposition.code]

/-- R136: the members served from a position: up to 8, in list order. -/
def servedMembers (l : Lot) (position : Nat) : List Member := (l.members.drop position).take 8

/-- R137: the position after the last served, or END (0xFF, R193) when no member entry lies beyond it. -/
def nextMember (l : Lot) (position : Nat) : Byte :=
  if position + 8 < l.members.length then BitVec.ofNat 8 (position + 8) else 0xFF

/-- R137, R193, R195: the fields of an LSUM answer. The soft bins served are a list of varying length, preceded by its
one-byte count (R193), and the members served by theirs, which is the members-served field of R137 (assumption 10). -/
def lsumFields (k : Fin 16) (l : Lot) (r : Recipe) (first last position : Nat) : List Byte :=
  let t := l.totals
  let rc := match l.recipe with | some n => be1 n.val | none => [0xFF]
  be1 k.val ++ [l.state.code] ++ rc ++ be1 l.members.length ++ be3 t.tested ++ be3 t.passed ++
    be3 l.carry.tested ++ be2 t.yield ++ (rollups r t).flatMap be3 ++ be1 first ++ be1 last ++
    be1 (binsFrom first last).length ++ (binsFrom first last).flatMap (fun b => be3 t.counts[b] ++ be2 (t.share b)) ++
    binSetBytes l.limits.bins ++ [l.disposition.code] ++ be1 position ++
    be1 (servedMembers l position).length ++ (servedMembers l position).flatMap Member.fields ++
    [nextMember l position] ++ flagBytes [t.noData, l.limits.yield == .breach, l.limits.seen]

/-- R136: the item of an LSUM. -/
def lsumItem (c : Instr) (tag : Byte) (ident : LotId) (first last position : Byte) (s : State) : Item :=
  if binRangeOk first last = false then .refuse c tag .badField s
  else lotItem c tag ident (fun k s =>
    if s.lots[k].state = .opened ∨ s.lots[k].state = .closed then
      .ok c tag (lsumFields k s.lots[k] (s.recipeOfLot k) first.toNat (lastServed 16 first last) position.toNat) s
    else .refuse c tag .wrongState s) s

/-- LSUM (R136): lot summary. -/
def execLsum (tag : Byte) (ident : LotId) (first last position : Byte) (s : State) : Result :=
  engineCommand (.lsum tag ident first last position)
    (lsumItem (.lsum tag ident first last position) tag ident first last position) s

/-! ### RLHD LOT (R131) -/

/-- R131: the item of an RLHD LOT on a lot entry. -/
def rlhdLotWork (c : Instr) (tag : Byte) (k : Fin 16) (s : State) : Item :=
  if s.lots[k].state = .closed ∧ s.lots[k].disposition = .hold then
    .ok c tag [] (s.setLot k { s.lots[k] with disposition := .released })
  else .refuse c tag .wrongState s

/-- RLHD_LOT (R131): release hold of a lot. -/
def execRlhdLot (tag slot : Byte) (ident : LotId) (s : State) : Result :=
  engineCommand (.rlhdLot tag slot ident)
    (lotItem (.rlhdLot tag slot ident) tag ident (rlhdLotWork (.rlhdLot tag slot ident) tag)) s

end Sys2Proof.Machine
end

