-- ==== Sys2Proof/Machine/Recipes.lean ====
section
/-! DEFINITION. Recipes and bin classes (spec/01): LDRC part 1 and part 2 and RDRC. -/

namespace Sys2Proof.Machine

/-- R9, R10: the part byte names a part. -/
def partOk (part : Byte) : Bool := part == 1 || part == 2

/-- R9: the item of LDRC part 1. -/
def ldrcPart1Item (c : Instr) (tag recipe part : Byte) (w : ScalarsWire) (entries : List EntryWire) (s : State) :
    Item :=
  match recipeOf recipe, partOk part, policyOf w.policy, breachAdviceOf w.advice with
  | some r, true, some policy, some advice =>
    if s.recipeInUse r then .refuse c tag .inUse s
    else
      let n := scalarClamps w + (entries.map entryClamps).sum
      .ok c tag (be1 n) { s with staging := some ⟨r, storedScalars policy advice w, entries.map storedEntry, n⟩ }
  | _, _, _, _ => .refuse c tag .badField s

/-- LDRC_PART_1 (R9): the scalars and the entries of soft bins 1 to 31 fill the staging. -/
def execLdrcPart1 (tag recipe part : Byte) (scalars : ScalarsWire) (entries : List EntryWire) (s : State) : Result :=
  engineCommand (.ldrcPart1 tag recipe part scalars entries)
    (ldrcPart1Item (.ldrcPart1 tag recipe part scalars entries) tag recipe part scalars entries) s

/-- R10: the record that a commit makes of the staging and part 2. -/
def committed (old : Recipe) (g : Staging) (entries : List EntryWire) : Recipe :=
  let table := entryTable (g.entries ++ entries.map storedEntry)
  ⟨recipeStateOf table, old.loadCount + 1, g.scalars, table⟩

/-- R10: the item of LDRC part 2. -/
def ldrcPart2Item (c : Instr) (tag recipe part : Byte) (entries : List EntryWire) (s : State) : Item :=
  match recipeOf recipe, partOk part with
  | some r, true =>
    match s.staging with
    | some g =>
      if g.recipe = r then
        if s.recipeInUse r then .refuse c tag .inUse s
        else
          let new := committed s.recipes[r] g entries
          .ok c tag ([new.state.code] ++ be1 (g.clamped + (entries.map entryClamps).sum))
            { s with recipes := s.recipes.set r new, staging := none }
      else .refuse c tag .notStaged s
    | none => .refuse c tag .notStaged s
  | _, _ => .refuse c tag .badField s

/-- LDRC_PART_2 (R10): the whole record is committed from the staging and the entries of soft bins 32 to 63. -/
def execLdrcPart2 (tag recipe part : Byte) (entries : List EntryWire) (s : State) : Result :=
  engineCommand (.ldrcPart2 tag recipe part entries)
    (ldrcPart2Item (.ldrcPart2 tag recipe part entries) tag recipe part entries) s

/-- The wire entries of soft bins `first` to `last` of a record. -/
def entryBytes (r : Recipe) (first last : Nat) : List Byte :=
  (binsFrom first last).flatMap fun b => r.entries[b].bytes

/-- R13: the item of RDRC. -/
def rdrcItem (c : Instr) (tag recipe part : Byte) (s : State) : Item :=
  match recipeOf recipe with
  | some r =>
    let old := s.recipes[r]
    let head := [old.state.code, old.loadCount]
    let tail := flagBytes [s.recipeInUse r]
    if part = 1 then .ok c tag (head ++ old.scalars.bytes ++ entryBytes old 1 31 ++ tail) s
    else if part = 2 then .ok c tag (head ++ entryBytes old 32 63 ++ tail) s
    else .refuse c tag .badField s
  | none => .refuse c tag .badField s

/-- RDRC (R13): read recipe. -/
def execRdrc (tag recipe part : Byte) (s : State) : Result :=
  engineCommand (.rdrc tag recipe part) (rdrcItem (.rdrc tag recipe part) tag recipe part) s

end Sys2Proof.Machine
end

