-- ==== Sys2Proof/Machine/Resets.lean ====
section
/-! DEFINITION. Power-on and the RESET pin (R41, R178). -/

namespace Sys2Proof.Machine

/-- Every record, queue, unit and link at its reset value (R5, R41, R44, R49, R61, R123, R138, R156, R178, R179). The
model's own queue of commands still to come and its count of free values are no record of the part and stay. -/
def State.afterReset (s : State) : State := { State.reset with pending := s.pending, freeIndex := s.freeIndex }

/-- R178: the part while the RESET pin is asserted: every receiver is IDLE. The ready lines (`State.ready`) are
withdrawn, and no transmitter sends and no unit takes a step, because every meaning asks that the pin be released. -/
def State.heldInReset (s : State) : State :=
  { s with
    resetPin := true
    links := Vector.ofFn fun n => { s.links[n] with receiver := .idle } }

/-- POWER_ON (R41): all work is abandoned and every record takes its reset value. A part powered on while the RESET pin
is asserted is held until the release. Assumption 6. -/
def execPowerOn (s : State) : Result := .next (if s.resetPin then s.afterReset.heldInReset else s.afterReset)

/-- RESET_PIN_ASSERT (R178): the pin is asserted, and the part is held. -/
def execResetPinAssert (s : State) : Result := .next s.heldInReset

/-- RESET_PIN_RELEASE (R178): the reset values are applied once; CL's receiver is then in HUNT and its ready line
asserted, and the Clear Unit begins on slot 0. A pin that is not asserted is not released, and nothing changes. -/
def execResetPinRelease (s : State) : Result := .next (if s.resetPin then s.afterReset else s)

end Sys2Proof.Machine
end

