-- ==== Sys2Proof/Machine/Dispatch.lean ====
section
/-! DEFINITION. The meaning of every command: one arm per row of the table, each a direct call of that row's meaning. -/

namespace Sys2Proof.Machine

/-- The effect of a command on everything but the queue of commands still to come. -/
def exec (i : Instr) (s : State) : Host.Outcome State Fault Refusal :=
  match i with
  | .powerOn => Sys2Proof.Machine.execPowerOn s
  | .resetPinAssert => Sys2Proof.Machine.execResetPinAssert s
  | .resetPinRelease => Sys2Proof.Machine.execResetPinRelease s
  | .byteReceived link b => Sys2Proof.Machine.execByteReceived link b s
  | .interByteTimeout link => Sys2Proof.Machine.execInterByteTimeout link s
  | .messageSent link => Sys2Proof.Machine.execMessageSent link s
  | .frameDiscard link => Sys2Proof.Machine.execFrameDiscard link s
  | .tdr link aliasNo x0 y0 count results => Sys2Proof.Machine.execTdr link aliasNo x0 y0 count results s
  | .clq link aliasNo x y => Sys2Proof.Machine.execClq link aliasNo x y s
  | .rtp link aliasNo start maxCount => Sys2Proof.Machine.execRtp link aliasNo start maxCount s
  | .commandTake => Sys2Proof.Machine.execCommandTake s
  | .ldrcPart1 tag recipe part scalars entries => Sys2Proof.Machine.execLdrcPart1 tag recipe part scalars entries s
  | .ldrcPart2 tag recipe part entries => Sys2Proof.Machine.execLdrcPart2 tag recipe part entries s
  | .rdrc tag recipe part => Sys2Proof.Machine.execRdrc tag recipe part s
  | .oplt tag ident recipe => Sys2Proof.Machine.execOplt tag ident recipe s
  | .cllt tag ident => Sys2Proof.Machine.execCllt tag ident s
  | .rtlt tag ident => Sys2Proof.Machine.execRtlt tag ident s
  | .lsum tag ident first last position => Sys2Proof.Machine.execLsum tag ident first last position s
  | .opwf tag ident wafer rows cols round forceHold => Sys2Proof.Machine.execOpwf tag ident wafer rows cols round forceHold s
  | .clwf tag slot => Sys2Proof.Machine.execClwf tag slot s
  | .rpwf tag slot => Sys2Proof.Machine.execRpwf tag slot s
  | .rtwf tag slot => Sys2Proof.Machine.execRtwf tag slot s
  | .pins tag slot => Sys2Proof.Machine.execPins tag slot s
  | .upin tag slot => Sys2Proof.Machine.execUpin tag slot s
  | .fndw tag ident wafer => Sys2Proof.Machine.execFndw tag ident wafer s
  | .wsum tag slot first last => Sys2Proof.Machine.execWsum tag slot first last s
  | .rdcl tag slot y x count => Sys2Proof.Machine.execRdcl tag slot y x count s
  | .frcl tag slot x y bin => Sys2Proof.Machine.execFrcl tag slot x y bin s
  | .ufcl tag slot x y => Sys2Proof.Machine.execUfcl tag slot x y s
  | .excl tag slot x1 y1 x2 y2 => Sys2Proof.Machine.execExcl tag slot x1 y1 x2 y2 s
  | .incl tag slot x1 y1 x2 y2 => Sys2Proof.Machine.execIncl tag slot x1 y1 x2 y2 s
  | .xprt tag slot => Sys2Proof.Machine.execXprt tag slot s
  | .xstp tag => Sys2Proof.Machine.execXstp tag s
  | .dgst tag slot start count => Sys2Proof.Machine.execDgst tag slot start count s
  | .bind tag link aliasNo slot => Sys2Proof.Machine.execBind tag link aliasNo slot s
  | .ubnd tag link aliasNo => Sys2Proof.Machine.execUbnd tag link aliasNo s
  | .rsmb tag link aliasNo => Sys2Proof.Machine.execRsmb tag link aliasNo s
  | .stmp tag link count entries => Sys2Proof.Machine.execStmp tag link count entries s
  | .rlhdWafer tag kind slot ident => Sys2Proof.Machine.execRlhdWafer tag kind slot ident s
  | .rlhdLot tag slot ident => Sys2Proof.Machine.execRlhdLot tag slot ident s
  | .lctlStart tag link action value => Sys2Proof.Machine.execLctlStart tag link action value s
  | .lctlStopDrain tag link value => Sys2Proof.Machine.execLctlStopDrain tag link value s
  | .lctlStopForce tag link value => Sys2Proof.Machine.execLctlStopForce tag link value s
  | .lctlRestart tag link value => Sys2Proof.Machine.execLctlRestart tag link value s
  | .lctlSetMode tag link value => Sys2Proof.Machine.execLctlSetMode tag link value s
  | .lctlSetRate tag link value => Sys2Proof.Machine.execLctlSetRate tag link value s
  | .lsta tag link => Sys2Proof.Machine.execLsta tag link s
  | .asta tag selector first => Sys2Proof.Machine.execAsta tag selector first s
  | .stpa tag => Sys2Proof.Machine.execStpa tag s
  | .rsma tag => Sys2Proof.Machine.execRsma tag s
  | .clra tag => Sys2Proof.Machine.execClra tag s
  | .clearingEnd => Sys2Proof.Machine.execClearingEnd s
  | .sweepEnd => Sys2Proof.Machine.execSweepEnd s
  | .digestEnd => Sys2Proof.Machine.execDigestEnd s
  | .mch => Sys2Proof.Machine.execMch s
  | .mnd => Sys2Proof.Machine.execMnd s
  | .don => Sys2Proof.Machine.execDon s

end Sys2Proof.Machine
end

