-- ==== Sys2Proof/Safety.lean ====
section
/-! DEFINITION. The terms the statements use: when a command is the one the part takes next, how its answer leaves the
state, and the laws that hold between any two steps (the laws the spec says its blocks keep). -/

namespace Sys2Proof.Safety

open Sys2Proof.Machine

/-! ### When a command is taken, and how it is answered -/

/-- The engine takes the current CL command `c` next (R62, R63): the RESET pin is not asserted, `c` is the current
command, and the arbiter comes to the Command Interpreter. -/
def EngineTakes (c : Instr) (s : State) : Prop :=
  s.resetPin = false ∧ s.current = some c ∧ s.nextSource = some cl

/-- The interpreter serves the current command `c` itself (R182): the RESET pin is not asserted, `c` is the current
command, and CL's outbound queue has a free entry. -/
def InterpreterServes (c : Instr) (s : State) : Prop :=
  s.resetPin = false ∧ s.current = some c ∧ 1 ≤ s.room cl 0

/-- The engine takes a frame of tester link `n` next, and `body` is that frame (R63, R65). -/
def EngineTakesFrame (n : Fin 12) (body : List Byte) (s : State) : Prop :=
  s.resetPin = false ∧ s.nextSource = some (tl n) ∧ s.links[tl n].holding.head? = some body

/-- The engine takes the report `c` from tester link `n` next. -/
def EngineTakesReport (n : Fin 12) (c : Instr) (s : State) : Prop :=
  ∃ body, EngineTakesFrame n body s ∧ decodeReport n body = .command c

/-- The state after an engine item whose answer is `m` and whose records are those of `t`: the answer is placed in CL's
outbound queue, the current command has ended, and the pointer names TL0 (R63, R64, R181). -/
def answered (m : Message) (t : State) : State := { t.place cl m with current := none, pointer := 0 }

/-- The state after a command the interpreter has served with `m`, with the records of `t` (R181, R182). -/
def served (m : Message) (t : State) : State := { t.place cl m with current := none }

/-- The engine refuses `c`: RSP with the refusal code and nothing else changed. -/
def Refuses (c : Instr) (tag : Byte) (status : Status) (s : State) : Prop :=
  exec c s = .next (answered (.rsp tag c.code status []) s)

/-- The interpreter refuses `c`: RSP with the refusal code and nothing else changed. -/
def ServesRefusal (c : Instr) (tag : Byte) (status : Status) (s : State) : Prop :=
  exec c s = .next (served (.rsp tag c.code status []) s)

/-- The state after an engine item for a frame of tester link `n` whose records are those of `t`: its alerts offered to
CL, then its answer placed in the link's outbound queue (R64, R78). -/
def reported (n : Fin 12) (alerts : List Alert) (m : Message) (t : State) : State :=
  (t.offerAll 0 alerts).place (tl n) m

/-- The tester link of a report; absent for every other command. -/
def reportLink : Instr → Option (Fin 12)
  | .tdr n .. => some n
  | .clq n .. => some n
  | .rtp n .. => some n
  | .powerOn | .resetPinAssert | .resetPinRelease | .byteReceived .. | .interByteTimeout .. | .messageSent ..
  | .frameDiscard .. | .commandTake | .ldrcPart1 .. | .ldrcPart2 .. | .rdrc .. | .oplt .. | .cllt .. | .rtlt ..
  | .lsum .. | .opwf .. | .clwf .. | .rpwf .. | .rtwf .. | .pins .. | .upin .. | .fndw .. | .wsum .. | .rdcl ..
  | .frcl .. | .ufcl .. | .excl .. | .incl .. | .xprt .. | .xstp .. | .dgst .. | .bind .. | .ubnd .. | .rsmb ..
  | .stmp .. | .rlhdWafer .. | .rlhdLot .. | .lctlStart .. | .lctlStopDrain .. | .lctlStopForce ..
  | .lctlRestart .. | .lctlSetMode .. | .lctlSetRate .. | .lsta .. | .asta .. | .stpa .. | .rsma .. | .clra ..
  | .clearingEnd | .sweepEnd | .digestEnd | .mch | .mnd | .don => none

/-- A tester frame resolves through alias place `a` of link `n` to the OPEN slot `i` (R52). -/
def ResolvesTo (n : Fin 12) (aliasNo : Byte) (a : Fin 4) (i : Fin 64) (s : State) : Prop :=
  aliasNo.toNat = a.val + 1 ∧ s.testers[n].bindings[a].slot = some i ∧ s.slots[i].state = .opened

/-- The alias of a frame of link `n` ends the report with a verdict: outside 1 to 4, unbound, or bound to a slot that is
not OPEN (R52). -/
def EndsWith (n : Fin 12) (aliasNo : Byte) (v : Verdict) (s : State) : Prop :=
  ((aliasNo.toNat = 0 ∨ 4 < aliasNo.toNat) ∧ v = .malformed) ∨
  ∃ a : Fin 4, aliasNo.toNat = a.val + 1 ∧
    ((s.testers[n].bindings[a].slot = none ∧ v = .unbound) ∨
     (∃ i : Fin 64, s.testers[n].bindings[a].slot = some i ∧ s.slots[i].state ≠ .opened ∧ v = .notOpen))

/-! ### Links -/

/-- Where the receiver goes when a frame ends or is lost: IDLE in a DRAINING link, HUNT otherwise (R165). -/
def restingReceiver (l : Link) : Receiver := if l.state = .draining then .idle else .hunt false

/-- A link whose frame in assembly is lost: the receiver rests, and a DRAINING link with no held frame stops (R171). -/
def lostFrame (l : Link) : Link :=
  { l with receiver := restingReceiver l
           state := if l.state = .draining ∧ l.holding = [] then .stopped else l.state }

/-- The bytes of a list arrive on a link, one after the other. -/
def receiveAll (n : Fin 13) : List Byte → State → Host.Outcome State Fault Refusal
  | [], s => .next s
  | b :: bs, s =>
    match exec (.byteReceived n b) s with
    | .next t => receiveAll n bs t
    | .fault f => .fault f
    | .refused r => .refused r

/-- The bits of a byte, most significant first (R151). -/
def bitsOf (b : Byte) : List Bool := [7, 6, 5, 4, 3, 2, 1, 0].map fun k => b.getLsbD k

/-! ### The law of the links (R163, R168, R169, R171, R174, R186) -/

/-- What a receiver may hold: 1 to 200 announced body bytes, of which BODY lacks some and CHECK none. -/
def receiverLaw : Receiver → Prop
  | .idle | .hunt _ | .length => True
  | .body len got => 1 ≤ len.toNat ∧ len.toNat ≤ 200 ∧ got.length < len.toNat
  | .check len got _ => 1 ≤ len.toNat ∧ len.toNat ≤ 200 ∧ got.length = len.toNat

/-- One link: its queues keep their limits, its counters their tops, held frames have a body of 1 to 200 bytes, and a
STOPPED link's receiver is IDLE and holds no frame. -/
structure LinkLaw (n : Fin 13) (l : Link) : Prop where
  holding  : l.holding.length ≤ holdCap n
  bodies   : ∀ b ∈ l.holding, 1 ≤ b.length ∧ b.length ≤ 200
  outbound : l.outbound.length ≤ outCap n
  line     : l.lineRate = none ↔ l.outbound = []
  stopped  : l.state = .stopped → l.receiver = .idle ∧ l.holding = []
  receiver : receiverLaw l.receiver
  counters : l.good ≤ 65535 ∧ l.bad ≤ 255 ∧ l.overruns ≤ 255 ∧ l.discards ≤ 255

/-- Every link keeps its law, and CL is RUNNING, PACED and at 4 Mbaud. -/
structure LinksLaw (s : State) : Prop where
  links   : ∀ n : Fin 13, LinkLaw n s.links[n]
  control : s.links[cl].state = .running ∧ s.links[cl].mode = .paced ∧ s.links[cl].rate = .mbaud4

/-! ### The law of the records (R1, R2, R4, R5, R11, R18) -/

/-- A stored soft-bin entry is in range, and one not defined holds its reset values. -/
def entryLaw (e : BinEntry) : Prop :=
  (e.defined = false → e = BinEntry.reset) ∧ 1 ≤ e.hardBin ∧ e.hardBin ≤ 8 ∧ e.rank ≤ 15 ∧ e.ceiling ≤ 10000

/-- Stored scalars are in range. -/
structure ScalarsLaw (c : Scalars) : Prop where
  attemptLimit : 1 ≤ c.attemptLimit ∧ c.attemptLimit ≤ 7
  floors       : c.waferFloor ≤ 10000 ∧ c.lotFloor ≤ 10000
  minSample    : 1 ≤ c.minSample ∧ c.minSample ≤ 65535
  hysteresis   : c.hysteresis ≤ 1000
  runLimit     : c.runLimit ≠ 1 ∧ c.runLimit ≤ 255

/-- A recipe record: fields in range, EMPTY only at reset values, otherwise VALID or INVALID by its PASS bins. -/
structure RecipeLaw (r : Recipe) : Prop where
  scalars : ScalarsLaw r.scalars
  entries : ∀ b : Fin 64, entryLaw r.entries[b]
  noBin   : r.entries[(0 : Fin 64)].defined = false
  empty   : r.state = .empty → r = Recipe.reset
  loaded  : r.state ≠ .empty → r.state = recipeStateOf r.entries

/-- A cell record: no bin, attempts or source without a test or a force; a bin with one; at most 7 attempts; no source
in a FORCED cell. -/
structure CellLaw (c : Cell) : Prop where
  bare     : c.status = .untested ∨ c.status = .excluded → c.bin = 0 ∧ c.attempts = 0 ∧ c.source = none
  binned   : c.status = .tested ∨ c.status = .forced → c.bin ≠ 0
  attempts : c.attempts ≤ 7
  forced   : c.status = .forced → c.source = none

/-- Every recipe, the staging and every cell record keep their laws, and every slot's cell records are canonical. -/
structure RecordsLaw (s : State) : Prop where
  recipes : ∀ r : Fin 8, RecipeLaw s.recipes[r]
  staging : ∀ g, s.staging = some g → ScalarsLaw g.scalars ∧ ∀ e ∈ g.entries, entryLaw e
  memory  : ∀ i : Fin 64, s.slots[i].cells.wf = true
  cells   : ∀ (i : Fin 64) (k : Nat), CellLaw (s.slots[i].cell k)

/-! ### The law of lives: slots, lots, lists, bindings and long operations (R19, R29, R34, R36, R40, R43, R120, R138,
R156, R185) -/

/-- Slot `i` is held by a member entry of lot entry `k` for wafer `w`. -/
def HeldBy (s : State) (i : Fin 64) (k : Fin 16) (w : Nat) : Prop :=
  ∃ m ∈ s.lots[k].members, m.slot = some i ∧ m.wafer = w

/-- The geometry of a map. -/
def gridLaw (rows cols : Nat) : Prop := 1 ≤ rows ∧ rows ≤ 256 ∧ 1 ≤ cols ∧ cols ≤ 256

structure LifeLaw (s : State) : Prop where
  /-- The Clear Unit's list holds every CLEARING slot once and no other. -/
  clearOnce    : s.clearList.Nodup
  clearExactly : ∀ i : Fin 64, i ∈ s.clearList ↔ s.slots[i].state = .clearing
  /-- A slot that holds a map has an identity, a grid and its lot's recipe, and a member entry of its lot, which is not
  FREE, names it. -/
  held         : ∀ i : Fin 64, s.slots[i].inUse = true → ∃ d g, s.slots[i].identity = some d ∧ s.slots[i].geometry = some g ∧
                   gridLaw g.rows g.cols ∧ s.lots[d.lot].state ≠ .free ∧
                   s.slots[i].recipe.isSome = true ∧ s.slots[i].recipe = s.lots[d.lot].recipe ∧
                   HeldBy s i d.lot d.wafer
  /-- A slot that holds no map has an identity exactly when it has a pending open. -/
  unheld       : ∀ i : Fin 64, s.slots[i].inUse = false → s.slots[i].pendingOpen = none → s.slots[i].identity = none
  /-- A pair of lot entry and wafer number is held by at most one slot. -/
  identities   : ∀ (i j : Fin 64) (d : Identity), s.slots[i].identity = some d → s.slots[j].identity = some d → i = j
  /-- A pending open stands on a CLEARING slot, for an opening member of an OPEN lot. -/
  pendings     : ∀ (i : Fin 64) (o : PendingOpen), s.slots[i].pendingOpen = some o → s.slots[i].state = .clearing ∧
                   s.slots[i].identity = some ⟨o.lot, o.wafer⟩ ∧ gridLaw o.rows o.cols ∧
                   s.lots[o.lot].state = .opened ∧ ∃ m ∈ s.lots[o.lot].members, m.wafer = o.wafer ∧ m.opening = true
  /-- A member entry that names a slot names one that holds the map of its wafer; in a lot that is not OPEN the slot is
  CLOSED or EXPORTING, and in a RETIRING lot there is none. -/
  members      : ∀ (k : Fin 16) (i : Fin 64), ∀ m ∈ s.lots[k].members, m.slot = some i → s.slots[i].inUse = true ∧
                   s.slots[i].identity = some ⟨k, m.wafer⟩ ∧
                   (s.lots[k].state ≠ .opened → s.slots[i].state = .closed ∨ s.slots[i].state = .exporting)
  retiring     : ∀ k : Fin 16, s.lots[k].state = .retiring → ∀ m ∈ s.lots[k].members, m.slot = none
  freeLots     : ∀ k : Fin 16, s.lots[k].state = .free → s.lots[k] = Lot.free
  namedLots    : ∀ k : Fin 16, s.lots[k].state ≠ .free → s.lots[k].recipe.isSome = true
  /-- The pin count is the number of pinned slots, all of which hold maps, and at most 16. -/
  pins         : s.pinCount = (List.finRange 64).countP (fun (i : Fin 64) => s.slots[i].pinned) ∧ s.pinCount ≤ 16
  pinned       : ∀ i : Fin 64, s.slots[i].pinned = true → s.slots[i].inUse = true
  /-- An alias entry is bound only to an OPEN slot, and an unbound one holds no run state. -/
  bound        : ∀ (n : Fin 12) (a : Fin 4) (i : Fin 64), s.testers[n].bindings[a].slot = some i →
                   s.slots[i].state = .opened
  unbound      : ∀ (n : Fin 12) (a : Fin 4), s.testers[n].bindings[a].slot = none →
                   s.testers[n].bindings[a] = Binding.unbound
  /-- At most eight jobs, each on a slot of its own that carries its marker. -/
  jobCount     : s.jobs.length ≤ 8
  jobSlots     : (s.jobs.map (·.slot)).Nodup
  jobs         : ∀ j ∈ s.jobs,
                   (j.kind = .sweep → s.slots[j.slot].state = .closing ∧ s.slots[j.slot].busy = some .sweep) ∧
                   (j.kind = .digest → (s.slots[j.slot].state = .opened ∨ s.slots[j.slot].state = .closed) ∧
                     s.slots[j.slot].busy = some .digest)
  /-- A marker names an operation that is queued or in flight, and the EXPORTING slot is the one being exported. -/
  markers      : ∀ i : Fin 64, (s.slots[i].busy = some .sweep ∨ s.slots[i].busy = some .digest → ∃ j ∈ s.jobs, j.slot = i) ∧
                   (s.slots[i].busy = some .transfer → s.slots[i].state = .exporting)
  exporting    : ∀ i : Fin 64, s.slots[i].state = .exporting ↔ ∃ x, s.transfer = some x ∧ x.slot = i
  transfers    : ∀ x, s.transfer = some x → s.slots[x.slot].busy = some .transfer

/-! ### The law of tallies (R20, R121) -/

/-- How many cells of a slot's map satisfy a test. -/
def cellCount (sl : Slot) (p : Cell → Bool) : Nat := (List.range sl.size).countP fun k => p (sl.cell k)

/-- A cell that counts toward the tested count. -/
def isTested (c : Cell) : Bool := c.status == .tested || c.status == .forced

/-- The tallies of a slot are those of its cells under a recipe. -/
structure SlotTallyLaw (r : Recipe) (sl : Slot) : Prop where
  tested  : sl.tallies.tested = cellCount sl isTested
  passed  : sl.tallies.passed = cellCount sl fun c => isTested c && r.passes c.bin
  counts  : ∀ b : Fin 64, sl.tallies.counts[b] = cellCount sl fun c => isTested c && c.bin == b
  mapSize : sl.mapSize + cellCount sl (fun c => c.status == .excluded) = sl.size

/-- The sum of a figure over the slots that hold maps of a lot entry. -/
def memberSum (s : State) (k : Fin 16) (f : Tallies → Nat) : Nat :=
  ((List.finRange 64).map fun (i : Fin 64) =>
    if s.slots[i].inUse = true ∧ s.slots[i].identity.map Identity.lot = some k then f s.slots[i].tallies else 0).sum

/-- Every slot's tallies are those of its cells, a slot with no map has none, and every lot's totals are its carry plus
the sum over its member slots. -/
structure TallyLaw (s : State) : Prop where
  slots : ∀ i : Fin 64, s.slots[i].inUse = true → SlotTallyLaw (s.recipeOfSlot i) s.slots[i]
  empty : ∀ i : Fin 64, s.slots[i].inUse = false → s.slots[i].tallies = Tallies.zero ∧ s.slots[i].mapSize = 0
  lots  : ∀ k : Fin 16, s.lots[k].state ≠ .free →
            s.lots[k].totals.tested = s.lots[k].carry.tested + memberSum s k Tallies.tested ∧
            s.lots[k].totals.passed = s.lots[k].carry.passed + memberSum s k Tallies.passed ∧
            ∀ b : Fin 64, s.lots[k].totals.counts[b] = s.lots[k].carry.counts[b] + memberSum s k fun t => t.counts[b]

/-! ### The law of digests (R144, R156, R160) -/

/-- The digest of the first `n` cells of a slot's map. -/
def digestUpTo (sl : Slot) (n : Nat) : Word16 := digestCellsFrom 0xFFFF sl.cells 0 n

/-- A closed map's digest is that of its cells, a sweep reads the whole map in order, and an export has digested exactly
the chunks it has placed. -/
structure DigestLaw (s : State) : Prop where
  closed   : ∀ i : Fin 64, s.slots[i].state = .closed ∨ s.slots[i].state = .exporting →
               s.slots[i].closeDigest = some (digestUpTo s.slots[i] s.slots[i].size)
  sweeps   : ∀ j ∈ s.jobs, j.kind = .sweep → j.next = 0 ∧ j.stop = s.slots[j.slot].size ∧ j.register = 0xFFFF
  transfer : ∀ x, s.transfer = some x →
               x.chunks = chunkCount s.slots[x.slot].size ∧ x.nextChunk ≤ x.chunks ∧
               x.register = digestUpTo s.slots[x.slot] (min (64 * x.nextChunk) s.slots[x.slot].size) ∧
               (x.phase = .ending → x.stop = false → x.nextChunk = x.chunks) ∧
               (x.phase = .chunks → x.nextChunk < x.chunks ∧ x.stop = false)

/-! ### The law of maps under their recipes (R18) -/

/-- Every cell of a slot that holds a map is within the slot's recipe: the bin of a TESTED or FORCED cell is defined
there, and no cell's attempts exceed the attempt limit. -/
structure MapLaw (s : State) : Prop where
  bins     : ∀ i : Fin 64, s.slots[i].inUse = true → ∀ k : Nat, isTested (s.slots[i].cell k) = true →
               (s.recipeOfSlot i).entries[(s.slots[i].cell k).bin].defined = true
  attempts : ∀ i : Fin 64, s.slots[i].inUse = true → ∀ k : Nat,
               (s.slots[i].cell k).attempts ≤ (s.recipeOfSlot i).scalars.attemptLimit

/-! ### The law of lists, runs and marks (R36, R56, R107, R120, R127, R185) -/

/-- How many completions the work in flight is still to hand: one for every pending open, job, export and lot
retirement (R185). -/
def outstanding (s : State) : Nat :=
  (List.finRange 64).countP (fun (i : Fin 64) => s.slots[i].pendingOpen.isSome) + s.jobs.length +
    s.transfer.toList.length + (List.finRange 16).countP (fun (k : Fin 16) => s.lots[k].state == .retiring)

/-- The directory holds every identity once and nothing else; a lot has at most 50 member entries; a bound entry's run
length never exceeds its recipe's run limit; an active breach has its breach-seen mark; and the completions waiting or
still to come are at most 80. -/
structure ListsLaw (s : State) : Prop where
  directory     : ∀ (k : Fin 16) (w : Nat) (i : Fin 64),
                    ⟨k, w, i⟩ ∈ s.directory ↔ s.slots[i].identity = some ⟨k, w⟩
  directoryOnce : s.directory.Nodup
  members       : ∀ k : Fin 16, s.lots[k].members.length ≤ 50
  runs          : ∀ (n : Fin 12) (a : Fin 4) (i : Fin 64), s.testers[n].bindings[a].slot = some i →
                    s.testers[n].bindings[a].runLength ≤ (s.recipeOfSlot i).scalars.runLimit
  slotMarks     : ∀ i : Fin 64, s.slots[i].limits.active = true → s.slots[i].limits.seen = true
  lotMarks      : ∀ k : Fin 16, s.lots[k].limits.active = true → s.lots[k].limits.seen = true
  completions   : s.completions.length + outstanding s ≤ 80

/-! ### The law of close results (R17, R39, R110, R111, R145, R160) -/

/-- The close sequence counter keeps its top; a CLOSED or EXPORTING slot carries a close sequence number from 1 up to the
counter, the yield of its tallies as its final yield, and a disposition; every other slot carries no close result and no
exported mark. -/
structure CloseLaw (s : State) : Prop where
  counter : s.closeSeq ≤ 4294967295
  closed  : ∀ i : Fin 64, s.slots[i].state = .closed ∨ s.slots[i].state = .exporting →
              (∃ q, s.slots[i].closeSeq = some q ∧ 1 ≤ q ∧ q ≤ s.closeSeq) ∧
              s.slots[i].finalYield = some s.slots[i].tallies.yield ∧ s.slots[i].disposition ≠ .none
  others  : ∀ i : Fin 64, s.slots[i].state ≠ .closed → s.slots[i].state ≠ .exporting →
              s.slots[i].closeSeq = none ∧ s.slots[i].finalYield = none ∧ s.slots[i].closeDigest = none ∧
              s.slots[i].disposition = .none ∧ s.slots[i].exported = false

end Sys2Proof.Safety
end

