-- ==== Sys2Proof/Certificates/Slice0/Obligations.lean ====
section
/-! DEFINITION. The statements for the provers: what the rules of the spec say the block does, command by command, and
the laws its blocks keep. The record updates written out say the frame: whatever is not named there is left as it was.
Command codes, status codes and field layouts are written as the spec's tables give them. -/

open Sys2Proof Sys2Proof.Machine Sys2Proof.Safety

/-! ### The machine as a whole -/

/-- A step takes the command at the front of the queue and runs it on the state with the rest of the queue; with nothing
queued the block idles. The idling is the model's choice (assumption 5). -/
def Obligations.StepRunsTheFrontCommand : Prop :=
  (∀ (c : Instr) (rest : List Instr) (s : State), s.pending = c :: rest →
    step s = exec c { s with pending := rest }) ∧
  (∀ s : State, s.pending = [] → step s = .next s)

/-- Every command and event has an outcome in every state: it answers a next state, with the commands still to come as
they were. No command faults and none is refused. -/
def Obligations.EveryCommandAnswersNextState : Prop :=
  ∀ (c : Instr) (s : State), ∃ t : State, exec c s = .next t ∧ t.pending = s.pending

/-- A command that the arbiter or the interpreter does not take at this point changes nothing. That such an event is an
event that does not occur is the model's choice (assumption 1). -/
def Obligations.UntakenCommandChangesNothing : Prop :=
  ∀ (c : Instr) (s : State),
    (c.isCommand = true → c.selfServed = false → ¬ EngineTakes c s → exec c s = .next s) ∧
    (c.selfServed = true → ¬ InterpreterServes c s → exec c s = .next s) ∧
    (∀ n : Fin 12, reportLink c = some n → ¬ EngineTakesReport n c s → exec c s = .next s)

/-- While the RESET pin is asserted, no receiver takes a byte, no transmitter sends, no unit takes a step and every ready
line is withdrawn. With the pin not asserted, a link's ready line is asserted exactly when the link is RUNNING and is in
FREE mode or has a place in its holding queue (4 on CL, 2 on a tester link). -/
def Obligations.AssertedResetPinHoldsThePart : Prop :=
  (∀ (c : Instr) (s : State), s.resetPin = true →
    c ≠ .powerOn → c ≠ .resetPinAssert → c ≠ .resetPinRelease → exec c s = .next s) ∧
  (∀ (n : Fin 13) (s : State), s.resetPin = true → s.ready n = false) ∧
  (∀ (n : Fin 13) (s : State), s.resetPin = false →
    (s.ready n = true ↔ s.links[n].state = .running ∧
      (s.links[n].mode = .free ∨ s.links[n].holding.length < (if n = 12 then 4 else 2))))

/-! ### Bodies, checks and digests -/

/-- Every well-formed CL command and every well-formed tester report, written as a body, is read back as itself, with
every operand, and the body fits a frame. -/
def Obligations.FrameBodyDecodesToItself : Prop :=
  (∀ c : Instr, c.wf = true → c.isCommand = true →
    decodeCommand c.body = .command c ∧ c.body.length ≤ 200) ∧
  (∀ (c : Instr) (n : Fin 12), c.wf = true → reportLink c = some n →
    decodeReport n c.body = .command c ∧ c.body.length ≤ 200)

/-- Reading a body that a frame can carry loses no byte of it: what is read is well formed and is written back as the
same body. A body whose type byte the link does not carry (0x10 to 0x30 on CL, 1 to 3 on a tester link) is a TYPE error,
and one of a known type whose length is not that of its type is a LENGTH error; the body of each command and report is
laid out as its table gives it, two-byte fields most significant byte first. That the type is judged before the length is
the model's deduction (assumption 25), and which row carries a part, kind or action byte that names none is its choice
(assumption 11). -/
def Obligations.ReadingABodyLosesNothing : Prop :=
  (∀ (body : List Byte) (c : Instr), body.length ≤ 200 →
    (decodeCommand body = .command c → c.wf = true ∧ c.isCommand = true ∧ c.body = body) ∧
    (∀ n : Fin 12, decodeReport n body = .command c → c.wf = true ∧ reportLink c = some n ∧ c.body = body)) ∧
  (∀ (type : Byte) (rest : List Byte),
    (let length := rest.length + 1
    let fourth := rest.getD 2 0
    let fits : Prop := match type.toNat with
      | 0x10 => (length = 171 ∧ fourth ≠ 2) ∨ (length = 164 ∧ fourth ≠ 1)
      | 0x11 => length = 4
      | 0x12 => length = 15
      | 0x13 | 0x14 => length = 14
      | 0x15 => length = 17
      | 0x16 => length = 21
      | 0x17 | 0x18 | 0x19 | 0x1A | 0x1B | 0x1C => length = 3
      | 0x1D => length = 15
      | 0x1E => length = 5
      | 0x1F | 0x20 => length = 6
      | 0x21 => length = 5
      | 0x22 | 0x23 => length = 7
      | 0x24 | 0x25 | 0x26 | 0x27 => length = 2
      | 0x28 => length = 7
      | 0x29 => length = 5
      | 0x2A | 0x2B => length = 4
      | 0x2C => length = 4 + 4 * fourth.toNat
      | 0x2D => length = 16
      | 0x2E => length = 5
      | 0x2F => length = 3
      | 0x30 => length = 4
      | _ => False
    (decodeCommand (type :: rest) = .unknownType ↔ type.toNat < 0x10 ∨ 0x30 < type.toNat) ∧
    (decodeCommand (type :: rest) = .wrongLength ↔ 0x10 ≤ type.toNat ∧ type.toNat ≤ 0x30 ∧ ¬ fits))) ∧
  (∀ (n : Fin 12) (type : Byte) (rest : List Byte),
    (let length := rest.length + 1
    let fits : Prop := match type.toNat with
      | 1 => 7 ≤ length
      | 2 => length = 4
      | 3 => length = 5
      | _ => False
    (decodeReport n (type :: rest) = .unknownType ↔ type.toNat = 0 ∨ 3 < type.toNat) ∧
    (decodeReport n (type :: rest) = .wrongLength ↔ 1 ≤ type.toNat ∧ type.toNat ≤ 3 ∧ ¬ fits))) ∧
  (∀ w : Word16, word16Bytes w = [BitVec.ofNat 8 (w.toNat / 256), BitVec.ofNat 8 w.toNat]) ∧
  (∀ (n : Fin 12) (aliasNo x y count : Byte) (x0 y0 : Word16) (results : List Byte),
    (Instr.tdr n aliasNo x0 y0 count results).body =
      [1, aliasNo] ++ word16Bytes x0 ++ word16Bytes y0 ++ [count] ++ results ∧
    (Instr.clq n aliasNo x y).body = [2, aliasNo, x, y] ∧
    (Instr.rtp n aliasNo x0 count).body = [3, aliasNo] ++ word16Bytes x0 ++ [count]) ∧
  (∀ (tag recipe part : Byte) (w : ScalarsWire) (entries : List EntryWire),
    (let table := entries.flatMap fun e => [e.flags, e.hardBin, e.rank] ++ word16Bytes e.ceiling
    (Instr.ldrcPart1 tag recipe part w entries).body = [0x10, tag, recipe, part, w.policy, w.attemptLimit] ++
      word16Bytes w.waferFloor ++ word16Bytes w.lotFloor ++ word16Bytes w.minSample ++ word16Bytes w.hysteresis ++
      [w.runLimit, w.advice] ++ table ∧
    (Instr.ldrcPart2 tag recipe part entries).body = [0x10, tag, recipe, part] ++ table ∧
    (Instr.rdrc tag recipe part).body = [0x11, tag, recipe, part])) ∧
  (∀ (tag recipe wafer first last position round hold kind slot : Byte) (rows cols : Word16) (ident : LotId),
    (Instr.oplt tag ident recipe).body = [0x12, tag] ++ ident ++ [recipe] ∧
    (Instr.cllt tag ident).body = [0x13, tag] ++ ident ∧
    (Instr.rtlt tag ident).body = [0x14, tag] ++ ident ∧
    (Instr.lsum tag ident first last position).body = [0x15, tag] ++ ident ++ [first, last, position] ∧
    (Instr.opwf tag ident wafer rows cols round hold).body =
      [0x16, tag] ++ ident ++ [wafer] ++ word16Bytes rows ++ word16Bytes cols ++ [round, hold] ∧
    (Instr.fndw tag ident wafer).body = [0x1D, tag] ++ ident ++ [wafer] ∧
    (Instr.rlhdWafer tag kind slot ident).body = [0x2D, tag, kind, slot] ++ ident ∧
    (Instr.rlhdLot tag slot ident).body = [0x2D, tag, 2, slot] ++ ident) ∧
  (∀ (tag slot x y x2 y2 bin first last count : Byte) (start number : Word16),
    (Instr.clwf tag slot).body = [0x17, tag, slot] ∧ (Instr.rpwf tag slot).body = [0x18, tag, slot] ∧
    (Instr.rtwf tag slot).body = [0x19, tag, slot] ∧ (Instr.pins tag slot).body = [0x1A, tag, slot] ∧
    (Instr.upin tag slot).body = [0x1B, tag, slot] ∧ (Instr.xprt tag slot).body = [0x1C, tag, slot] ∧
    (Instr.wsum tag slot first last).body = [0x1E, tag, slot, first, last] ∧
    (Instr.rdcl tag slot y x count).body = [0x1F, tag, slot, y, x, count] ∧
    (Instr.frcl tag slot x y bin).body = [0x20, tag, slot, x, y, bin] ∧
    (Instr.ufcl tag slot x y).body = [0x21, tag, slot, x, y] ∧
    (Instr.excl tag slot x y x2 y2).body = [0x22, tag, slot, x, y, x2, y2] ∧
    (Instr.incl tag slot x y x2 y2).body = [0x23, tag, slot, x, y, x2, y2] ∧
    (Instr.xstp tag).body = [0x24, tag] ∧ (Instr.stpa tag).body = [0x25, tag] ∧
    (Instr.rsma tag).body = [0x26, tag] ∧ (Instr.clra tag).body = [0x27, tag] ∧
    (Instr.dgst tag slot start number).body = [0x28, tag, slot] ++ word16Bytes start ++ word16Bytes number) ∧
  (∀ (tag link aliasNo slot count action value selector first : Byte) (entries : List SiteWire),
    (Instr.bind tag link aliasNo slot).body = [0x29, tag, link, aliasNo, slot] ∧
    (Instr.ubnd tag link aliasNo).body = [0x2A, tag, link, aliasNo] ∧
    (Instr.rsmb tag link aliasNo).body = [0x2B, tag, link, aliasNo] ∧
    (Instr.stmp tag link count entries).body =
      [0x2C, tag, link, count] ++ entries.flatMap (fun e => [e.site, e.enabled, e.dx, e.dy]) ∧
    (Instr.lctlStart tag link action value).body = [0x2E, tag, link, action, value] ∧
    (Instr.lctlStopDrain tag link value).body = [0x2E, tag, link, 1, value] ∧
    (Instr.lctlStopForce tag link value).body = [0x2E, tag, link, 2, value] ∧
    (Instr.lctlRestart tag link value).body = [0x2E, tag, link, 3, value] ∧
    (Instr.lctlSetMode tag link value).body = [0x2E, tag, link, 4, value] ∧
    (Instr.lctlSetRate tag link value).body = [0x2E, tag, link, 5, value] ∧
    (Instr.lsta tag link).body = [0x2F, tag, link] ∧
    (Instr.asta tag selector first).body = [0x30, tag, selector, first])

/-- R151: the digest of a sequence of bytes takes their bits in order, most significant first, into a register that
starts at 0xFFFF: each bit is compared with the register's top bit, the register is shifted, and it is combined with
0x1021 when the two differed; nothing is done after the last bit. The nine ASCII bytes "123456789" give 0x29B1. R152: a
cell is encoded in two bytes, status code × 16 + attempts and the soft bin, whatever its last source; a range of n cells
is digested over its 2n encoding bytes in ascending index; an export chunk carries the same encodings. -/
def Obligations.DigestAndCellEncoding : Prop :=
  (∀ bytes : List Byte, crc16 bytes = (bytes.flatMap bitsOf).foldl
    (fun (reg : Word16) (bit : Bool) =>
      if bit = reg.getLsbD 15 then reg <<< 1 else (reg <<< 1) ^^^ 0x1021#16) 0xFFFF#16) ∧
  (∀ (from16 : Word16) (bytes : List Byte), crcFrom from16 bytes = (bytes.flatMap bitsOf).foldl
    (fun (reg : Word16) (bit : Bool) =>
      if bit = reg.getLsbD 15 then reg <<< 1 else (reg <<< 1) ^^^ 0x1021#16) from16) ∧
  crc16 [0x31, 0x32, 0x33, 0x34, 0x35, 0x36, 0x37, 0x38, 0x39] = 0x29B1#16 ∧
  (∀ c : Cell, c.attempts ≤ 7 → ∃ a b : Byte, c.encoding = [a, b] ∧ b.toNat = c.bin.val ∧
    a.toNat = (match c.status with
      | .untested => 0 | .tested => 16 | .forced => 32 | .excluded => 48) + c.attempts) ∧
  (∀ (c : Cell) (src : Option Source), ({ c with source := src } : Cell).encoding = c.encoding) ∧
  (∀ (m : Memory) (lo n : Nat),
    digestCellsFrom 0xFFFF m lo (lo + n) = crc16 ((List.range' lo n).flatMap fun i => (m.read i).encoding) ∧
    ((List.range' lo n).flatMap fun i => (m.read i).encoding).length = 2 * n) ∧
  (∀ (from16 : Word16) (m : Memory) (lo n : Nat), digestCellsFrom from16 m lo (lo + n) =
    crcFrom from16 ((List.range' lo n).flatMap fun i => (m.read i).encoding)) ∧
  (∀ (i : Fin 64) (k : Nat) (cells : List Cell), ∃ a b c d e : Byte,
    (Message.mch i k cells).body = [a, b, c, d, e] ++ cells.flatMap Cell.encoding)

/-- The bytes of a frame, arriving one after the other on a link that is hunting and not draining and has a place in its
holding queue, put the frame's body at the tail of the holding queue, count one good frame, and leave the receiver
hunting and everything else as it was. -/
def Obligations.FrameBytesDeliverTheBody : Prop :=
  ∀ (n : Fin 13) (body : List Byte) (r : Bool) (s : State),
    s.resetPin = false → 1 ≤ body.length → body.length ≤ 200 →
    s.links[n].receiver = .hunt r → s.links[n].state ≠ .draining → s.links[n].holding.length < holdCap n →
    receiveAll n (frame body) s = .next (s.setLink n { s.links[n] with
      receiver := .hunt false
      holding := s.links[n].holding ++ [body]
      good := min 65535 (s.links[n].good + 1) })

/-! ### Reset -/

/-- The state after reset: recipes, slots, lots, bindings, site maps, units, links and interpreter as the reset tables
give them. -/
def Obligations.ResetLeavesTheTables : Prop :=
  (∀ r : Fin 8, State.reset.recipes[r].state = .empty ∧ State.reset.recipes[r].loadCount = 0 ∧
    State.reset.recipes[r].scalars = ⟨.last, 1, 0, 0, 1, 0, 0, .continue⟩ ∧
    ∀ b : Fin 64, State.reset.recipes[r].entries[b] = ⟨false, .fail, 8, 15, 0, false⟩) ∧
  State.reset.staging = none ∧
  (∀ i : Fin 64, (let sl := State.reset.slots[i]
    sl.state = .clearing ∧ sl.identity = none ∧ sl.recipe = none ∧ sl.geometry = none ∧ sl.mapSize = 0 ∧
    sl.tallies = Tallies.zero ∧ sl.shadowed = 0 ∧ sl.disposition = .none ∧ sl.closeDigest = none ∧
    sl.finalYield = none ∧ sl.closeSeq = none ∧ sl.exported = false ∧ sl.forceHold = false ∧ sl.pinned = false ∧
    sl.pendingOpen = none ∧ sl.busy = none ∧ sl.limits = LimitStates.clear)) ∧
  State.reset.clearList = List.finRange 64 ∧ State.reset.directory = [] ∧ State.reset.pinCount = 0 ∧
  State.reset.closeSeq = 0 ∧
  (∀ (n : Fin 12) (a : Fin 4), State.reset.testers[n].bindings[a] = ⟨none, none, 0, false⟩) ∧
  (∀ (n : Fin 12) (k : Fin 32), State.reset.testers[n].sites[k] = ⟨false, 0, 0⟩) ∧
  State.reset.pointer = 0 ∧
  (∀ k : Fin 16, (let l := State.reset.lots[k]
    l.state = .free ∧ l.ident = none ∧ l.recipe = none ∧ l.members = [] ∧ l.totals = Tallies.zero ∧
    l.carry = Tallies.zero ∧ l.limits = LimitStates.clear ∧ l.disposition = .none ∧ l.retirement = none)) ∧
  State.reset.jobs = [] ∧ State.reset.transfer = none ∧
  (∀ n : Fin 12, State.reset.links[tl n] = ⟨.stopped, .paced, .mbaud4, .idle, [], [], none, .none, 0, 0, 0, 0⟩) ∧
  State.reset.links[cl] = ⟨.running, .paced, .mbaud4, .hunt false, [], [], none, .none, 0, 0, 0, 0⟩ ∧
  (∀ n : Fin 12, State.reset.ready (tl n) = false) ∧ State.reset.ready cl = true ∧
  State.reset.current = none ∧ State.reset.completions = [] ∧ State.reset.stopAll = false ∧
  State.reset.dropped = false

/-- POWER_ON, and the release of a RESET pin that is asserted, leave the reset values, whatever stood before; the assertion
of the pin makes every receiver IDLE. The commands still to come and the index of free values are the model's own and
stay (assumption 15). That a release of a pin not asserted changes nothing, that the assertion leaves every record to the
release, and that a part powered on under an asserted pin is held are the model's choices (assumption 6). -/
def Obligations.PowerOnAndResetPin : Prop :=
  ∀ s : State,
    (s.resetPin = false →
      exec .powerOn s = .next { State.reset with pending := s.pending, freeIndex := s.freeIndex } ∧
      exec .resetPinRelease s = .next s) ∧
    exec .resetPinAssert s = .next { s with
      resetPin := true, links := Vector.ofFn fun n => { s.links[n] with receiver := .idle } } ∧
    (s.resetPin = true →
      exec .resetPinRelease s = .next { State.reset with pending := s.pending, freeIndex := s.freeIndex } ∧
      exec .powerOn s = .next { State.reset with
        pending := s.pending, freeIndex := s.freeIndex, resetPin := true
        links := Vector.ofFn fun n => { State.reset.links[n] with receiver := .idle } })

/-! ### The link layer -/

/-- A byte arriving on a link, by the receiver's state: IDLE drops it; HUNT begins a frame at 0xA5 and counts the first
stray byte of a run as a FRAMING error; LENGTH takes 1 to 200 and loses the frame on any other length; BODY collects the
body; CHECK holds the first check byte. And the expiry of the inter-byte timer loses the frame in assembly. -/
def Obligations.ReceiverHandlesEachByte : Prop :=
  ∀ (n : Fin 13) (b : Byte) (s : State), s.resetPin = false →
    (let l := s.links[n]
    (l.receiver = .idle → exec (.byteReceived n b) s = .next s ∧ exec (.interByteTimeout n) s = .next s) ∧
    (∀ r : Bool, l.receiver = .hunt r → exec (.interByteTimeout n) s = .next s ∧
      exec (.byteReceived n b) s = .next (
        if b = 0xA5 then s.setLink n { l with receiver := .length }
        else if r = true then s
        else (s.setLink n { l with receiver := .hunt true }).linkError n .framing)) ∧
    (l.receiver = .length → exec (.byteReceived n b) s = .next (
      if 1 ≤ b.toNat ∧ b.toNat ≤ 200 then s.setLink n { l with receiver := .body b [] }
      else (s.setLink n (lostFrame l)).linkError n .length)) ∧
    (∀ (len : Byte) (got : List Byte), l.receiver = .body len got → exec (.byteReceived n b) s = .next (
      if got.length + 1 < len.toNat then s.setLink n { l with receiver := .body len (got ++ [b]) }
      else s.setLink n { l with receiver := .check len (got ++ [b]) none })) ∧
    (∀ (len : Byte) (got : List Byte), l.receiver = .check len got none →
      exec (.byteReceived n b) s = .next (s.setLink n { l with receiver := .check len got (some b) })) ∧
    (l.receiver.inFrame = true →
      exec (.interByteTimeout n) s = .next ((s.setLink n (lostFrame l)).linkError n .timeout)))

/-- The second check byte completes the frame: a frame that fails its check is lost with a CRC error, one that passes
joins the holding queue or, when that is full, is lost with an OVERRUN. -/
def Obligations.SecondCheckByteCompletesTheFrame : Prop :=
  ∀ (n : Fin 13) (b first len : Byte) (body : List Byte) (s : State), s.resetPin = false →
    s.links[n].receiver = .check len body (some first) →
    exec (.byteReceived n b) s = .next (
      let l := s.links[n]
      if first ++ b ≠ crc16 (len :: body) then (s.setLink n (lostFrame l)).linkError n .crc
      else if l.holding.length < (if n = 12 then 4 else 2) then
        s.setLink n { l with
          receiver := restingReceiver l, holding := l.holding ++ [body], good := min 65535 (l.good + 1) }
      else (s.setLink n (lostFrame l)).linkError n .overrun)

/-- The end of a frame on a link's line frees its entry, and the next message begins at the link's present rate; the
bytes sent are the marker, the length, the body and its check. The body of every message is laid out as its table gives
it, and every set of codes has the values of its table, the rate sent as 1, 4 or 12 (assumption 7); yes/no flags are
gathered eight to a byte, the first in the most significant bit and unused bits 0, and a set of soft bins is eight
bytes, a bit for each bin in breach and never one for bin 0. -/
def Obligations.MessageSentFreesItsEntry : Prop :=
  (∀ (n : Fin 13) (m : Message) (rest : List Message) (s : State), s.resetPin = false →
    s.links[n].outbound = m :: rest →
    exec (.messageSent n) s = .next { s with
      links := s.links.set n { s.links[n] with
        outbound := rest, lineRate := if rest = [] then none else some s.links[n].rate }
      lastSent := some (n, frame m.body) }) ∧
  (∀ (n : Fin 13) (s : State), s.links[n].outbound = [] → exec (.messageSent n) s = .next s) ∧
  (∀ body : List Byte, frame body = [0xA5, BitVec.ofNat 8 body.length] ++ body ++
    word16Bytes (crc16 (BitVec.ofNat 8 body.length :: body))) ∧
  (∀ (aliasNo : Byte) (v : Verdict) (d : Advice) (os : List SiteOutcome),
    (Message.tda aliasNo v d os).body =
      [0x81, aliasNo, v.code, d.code, BitVec.ofNat 8 os.length] ++ os.map SiteOutcome.code) ∧
  (∀ (aliasNo : Byte) (v : Verdict) (d : Advice) (c : Cell) (retest : Bool),
    (Message.cla aliasNo v d c retest).body = [0x82, aliasNo, v.code, d.code,
      BitVec.ofNat 8 (c.status.code * 16 + c.attempts), BitVec.ofNat 8 c.bin.val, if retest = true then 1 else 0]) ∧
  (∀ (aliasNo : Byte) (v : Verdict) (d : Advice) (next : Option Nat) (pairs : List (Nat × Nat)),
    (Message.rta aliasNo v d next pairs).body = [0x83, aliasNo, v.code, d.code] ++
      (match next with | none => [1, 0, 0] | some k => [0, BitVec.ofNat 8 (k / 256), BitVec.ofNat 8 k]) ++
      [BitVec.ofNat 8 pairs.length] ++ pairs.flatMap fun p => [BitVec.ofNat 8 p.1, BitVec.ofNat 8 p.2]) ∧
  (∀ (tag cmd : Byte) (st : Status) (fields : List Byte),
    (Message.rsp tag cmd st fields).body = [0xC0, tag, cmd, st.code] ++ fields) ∧
  (∀ (tag cmd : Byte) (fields : List Byte), (Message.acc tag cmd fields).body = [0xC1, tag, cmd] ++ fields) ∧
  (∀ (tag cmd : Byte) (st : DoneStatus) (fields : List Byte),
    (Message.don ⟨tag, cmd, st, fields⟩).body = [0xC2, tag, cmd, st.code] ++ fields) ∧
  (∀ (edge : Edge) (i : Fin 64) (lot wafer : Nat) (b : Fin 64) (threshold tested figure : Nat),
    (Message.alr (.waferLimit edge i lot wafer b threshold tested figure)).body =
      [0xC3, 1, edge.code, BitVec.ofNat 8 i.val, BitVec.ofNat 8 lot, BitVec.ofNat 8 wafer, if b = 0 then 2 else 1,
        BitVec.ofNat 8 b.val] ++ be2 threshold ++ be3 tested ++ be2 figure) ∧
  (∀ (edge : Edge) (k : Fin 16) (ident : LotId) (b : Fin 64) (threshold tested figure : Nat),
    (Message.alr (.lotLimit edge k ident b threshold tested figure)).body =
      [0xC3, 2, edge.code, BitVec.ofNat 8 k.val] ++ ident ++ [if b = 0 then 2 else 1, BitVec.ofNat 8 b.val] ++
        be2 threshold ++ be3 tested ++ be2 figure) ∧
  (∀ (edge : Edge) (n : Fin 12) (aliasNo : Nat) (i b : Fin 64),
    (Message.alr (.runAlarm edge n aliasNo i b)).body = [0xC3, 3, edge.code, BitVec.ofNat 8 n.val,
      BitVec.ofNat 8 aliasNo, BitVec.ofNat 8 i.val, BitVec.ofNat 8 b.val]) ∧
  (∀ (n : Fin 13) (e : LinkError),
    (Message.alr (.linkError n e)).body = [0xC3, 4, 0, BitVec.ofNat 8 n.val, e.code]) ∧
  (∀ (i : Fin 64) (k : Nat) (cells : List Cell), (Message.mch i k cells).body =
    [0xC4, BitVec.ofNat 8 i.val] ++ be2 k ++ [BitVec.ofNat 8 cells.length] ++ cells.flatMap Cell.encoding) ∧
  (∀ (i : Fin 64) (st : EndStatus) (chunks : Nat) (digest : Word16), (Message.mnd i st chunks digest).body =
    [0xC5, BitVec.ofNat 8 i.val, st.code] ++ be2 chunks ++ word16Bytes digest) ∧
  ([Status.ok, .badField, .range, .wrongState, .busy, .noLot, .lotClosed, .duplicate, .lotFull, .lotTableFull,
      .noSlot, .badRecipe, .inUse, .notStaged, .notInUse, .pinFull, .excludedCell, .badBin, .notForced, .notRunning,
      .membersActive].map Status.code =
    [0, 1, 2, 3, 4, 5, 6, 7, 8, 9, 10, 11, 12, 13, 14, 15, 16, 17, 18, 19, 20] ∧
  [DoneStatus.ok, .stopped, .cancelled].map DoneStatus.code = [0, 1, 2] ∧
  [EndStatus.complete, .stopped].map EndStatus.code = [1, 2] ∧
  [Verdict.ok, .noneTaken, .malformed, .unbound, .notOpen, .offMap].map Verdict.code = [0, 1, 2, 3, 4, 8] ∧
  [SiteOutcome.appliedNew, .appliedRetest, .kept, .exhausted, .shadowed, .excluded, .badBin, .offMap, .siteOff].map
    SiteOutcome.code = [1, 2, 3, 4, 5, 6, 7, 8, 9] ∧
  [Advice.continue, .pause, .stop].map Advice.code = [0, 1, 2] ∧ [Edge.enter, .clear].map Edge.code = [1, 2] ∧
  [LinkError.none, .framing, .crc, .overrun, .length, .type, .timeout].map LinkError.code = [0, 1, 2, 3, 4, 5, 6] ∧
  [SlotState.free, .clearing, .opened, .closing, .closed, .exporting].map SlotState.code = [0, 1, 2, 3, 4, 5] ∧
  [LotState.free, .opened, .closed, .retiring].map LotState.code = [0, 1, 2, 3] ∧
  [RecipeState.empty, .invalid, .valid].map RecipeState.code = [0, 1, 2] ∧
  [Disposition.none, .accept, .hold, .released].map Disposition.code = [0, 1, 2, 3] ∧
  [LinkState.stopped, .running, .draining].map LinkState.code = [0, 1, 2] ∧
  [Mode.paced, .free].map Mode.code = [0, 1] ∧ [Rate.mbaud1, .mbaud4, .mbaud12].map Rate.code = [1, 4, 12] ∧
  [RetestPolicy.last, .best, .stickyPass].map RetestPolicy.code = [0, 1, 2] ∧
  [BreachAdvice.continue, .pause].map BreachAdvice.code = [0, 1] ∧
  [CellStatus.untested, .tested, .forced, .excluded].map CellStatus.code = [0, 1, 2, 3]) ∧
  (∀ (r : Bool) (len : Byte) (got : List Byte) (first : Option Byte),
    [Receiver.hunt r, .length, .body len got, .check len got first, .idle].map Receiver.code = [0, 1, 2, 3, 4]) ∧
  (∀ flags : List Bool, (flagBytes flags).length = (flags.length + 7) / 8 ∧
    ∀ k : Nat, k < 8 * ((flags.length + 7) / 8) →
      ((flagBytes flags).getD (k / 8) 0).getLsbD (7 - k % 8) = flags.getD k false) ∧
  (∀ bins : Vector Breach 64, (binSetBytes bins).length = 8 ∧
    ∀ b : Fin 64, ((binSetBytes bins).getD (b.val / 8) 0).getLsbD (7 - b.val % 8) = true ↔
      b ≠ 0 ∧ bins[b] = .breach)

/-- How a message is placed, when an alert is placed or dropped, and what an error event on a link does: its code
replaces the last error, its counter rises and is held at 255, and an alert is offered when the last error was NONE. -/
def Obligations.AlertsAndErrorEvents : Prop :=
  (∀ (s : State) (n : Fin 13) (m : Message), s.place n m = { s with links := s.links.set n { s.links[n] with
      outbound := s.links[n].outbound ++ [m]
      lineRate := if s.links[n].outbound = [] then some s.links[n].rate else s.links[n].lineRate } }) ∧
  (∀ (s : State) (held : Nat) (a : Alert), s.offer held a =
    if s.links[cl].outbound.length + held + 8 ≤ 32 then s.place cl (.alr a) else { s with dropped := true }) ∧
  (∀ (s : State) (n : Fin 13) (e : LinkError), s.linkError n e =
    (let l := s.links[n]
    let t := s.setLink n { l with
      lastError := e
      bad := if e = .overrun then l.bad else min 255 (l.bad + 1)
      overruns := if e = .overrun then min 255 (l.overruns + 1) else l.overruns }
    if l.lastError = .none then t.offer 0 (.linkError n e) else t)) ∧
  (∀ (s : State) (held : Nat) (a : Alert) (rest : List Alert), s.offerAll held [] = s ∧
    s.offerAll held (a :: rest) = (s.offer held a).offerAll held rest)

/-- LCTL start, stop-drain and stop-force: the table of link states, the discards, and the answer with the state after
the action and the number of frames discarded; a link above 11 is refused BAD_FIELD, and so is an action that names none
of the six. That the number of frames discarded takes one byte is the model's deduction (assumption 7), and that an
unknown action stands in the row of start is its choice (assumption 11). -/
def Obligations.LctlStartAndStop : Prop :=
  (∀ (tag link action value : Byte) (s : State), InterpreterServes (.lctlStart tag link action value) s →
    (12 ≤ link.toNat ∨ 5 < action.toNat → ServesRefusal (.lctlStart tag link action value) tag .badField s) ∧
    (∀ n : Fin 12, link.toNat = n.val → action.toNat = 0 → exec (.lctlStart tag link action value) s = .next (
      let l := s.links[tl n]
      served (.rsp tag 0x2E .ok [1, 0]) (match l.state with
        | .running => s
        | .stopped => s.setLink (tl n) { l with state := .running, receiver := .hunt false }
        | .draining => s.setLink (tl n) { l with
            state := .running, receiver := if l.receiver = .idle then .hunt false else l.receiver })))) ∧
  (∀ (tag link value : Byte) (s : State), InterpreterServes (.lctlStopDrain tag link value) s →
    (12 ≤ link.toNat → ServesRefusal (.lctlStopDrain tag link value) tag .badField s) ∧
    (∀ n : Fin 12, link.toNat = n.val → exec (.lctlStopDrain tag link value) s = .next (
      let l := s.links[tl n]
      let after := if l.holding = [] then LinkState.stopped else .draining
      match l.state with
      | .stopped => served (.rsp tag 0x2E .ok [0, 0]) s
      | .draining => served (.rsp tag 0x2E .ok [2, 0]) s
      | .running => match l.receiver with
        | .body _ _ | .check _ _ _ =>
          served (.rsp tag 0x2E .ok [2, 0]) (s.setLink (tl n) { l with state := .draining })
        | .length => served (.rsp tag 0x2E .ok [after.code, 1]) (s.setLink (tl n) { l with
            state := after, receiver := .idle, discards := min 255 (l.discards + 1) })
        | .idle | .hunt _ => served (.rsp tag 0x2E .ok [after.code, 0]) (s.setLink (tl n) { l with
            state := after, receiver := .idle })))) ∧
  (∀ (tag link value : Byte) (s : State), InterpreterServes (.lctlStopForce tag link value) s →
    (12 ≤ link.toNat → ServesRefusal (.lctlStopForce tag link value) tag .badField s) ∧
    (∀ n : Fin 12, link.toNat = n.val → exec (.lctlStopForce tag link value) s = .next (
      let l := s.links[tl n]
      let lost := (if l.receiver.inFrame = true then 1 else 0) + l.holding.length
      if l.state = .stopped then served (.rsp tag 0x2E .ok [0, 0]) s
      else served (.rsp tag 0x2E .ok [0, BitVec.ofNat 8 lost]) (s.setLink (tl n) { l with
        state := .stopped, receiver := .idle, holding := [], discards := min 255 (l.discards + lost) }))))

/-- LCTL restart, set mode and set rate: restart discards, clears the last error and the counters and runs the link from
every state; set mode takes PACED 0 and FREE 1 in every state; set rate takes 1, 4 and 12 in STOPPED and is refused BUSY
in the other states; other values and links above 11 are refused BAD_FIELD. That set rate refuses an unknown value
BAD_FIELD in every link state, before BUSY, is the model's deduction (assumption 13), and so is the one byte of restart's
number of frames discarded (assumption 7). -/
def Obligations.LctlRestartModeAndRate : Prop :=
  (∀ (tag link value : Byte) (s : State), InterpreterServes (.lctlRestart tag link value) s →
    (12 ≤ link.toNat → ServesRefusal (.lctlRestart tag link value) tag .badField s) ∧
    (∀ n : Fin 12, link.toNat = n.val → exec (.lctlRestart tag link value) s = .next (
      let l := s.links[tl n]
      let lost := (if l.receiver.inFrame = true then 1 else 0) + l.holding.length
      served (.rsp tag 0x2E .ok [1, BitVec.ofNat 8 lost]) (s.setLink (tl n) { l with
        state := .running, receiver := .hunt false, holding := [], lastError := .none
        good := 0, bad := 0, overruns := 0, discards := 0 })))) ∧
  (∀ (tag link value : Byte) (s : State), InterpreterServes (.lctlSetMode tag link value) s →
    (12 ≤ link.toNat ∨ 1 < value.toNat → ServesRefusal (.lctlSetMode tag link value) tag .badField s) ∧
    (∀ n : Fin 12, link.toNat = n.val → value.toNat ≤ 1 → exec (.lctlSetMode tag link value) s = .next (
      served (.rsp tag 0x2E .ok [s.links[tl n].state.code]) (s.setLink (tl n) { s.links[tl n] with
        mode := if value.toNat = 0 then .paced else .free })))) ∧
  (∀ (tag link value : Byte) (s : State), InterpreterServes (.lctlSetRate tag link value) s →
    (12 ≤ link.toNat ∨ (value.toNat ≠ 1 ∧ value.toNat ≠ 4 ∧ value.toNat ≠ 12) →
      ServesRefusal (.lctlSetRate tag link value) tag .badField s) ∧
    (∀ (n : Fin 12) (r : Rate), link.toNat = n.val → value = r.code → exec (.lctlSetRate tag link value) s = .next (
      if s.links[tl n].state = .stopped then
        served (.rsp tag 0x2E .ok []) (s.setLink (tl n) { s.links[tl n] with rate := r })
      else served (.rsp tag 0x2E .busy []) s)))

/-- LSTA reports a link as it stands, CL's own outbound count with the entry its answer fills, and in the same action
clears the last error and the four counters; a link above 12 is refused BAD_FIELD. The widths of the counts, the counters
and the rate are the model's deduction (assumption 7). -/
def Obligations.LstaReportsAndClears : Prop :=
  ∀ (tag link : Byte) (s : State), InterpreterServes (.lsta tag link) s →
    (13 ≤ link.toNat → ServesRefusal (.lsta tag link) tag .badField s) ∧
    (∀ n : Fin 13, link.toNat = n.val → exec (.lsta tag link) s = .next (
      let l := s.links[n]
      served (.rsp tag 0x2F .ok ([l.state.code, l.mode.code, l.rate.code, l.receiver.code] ++
        be1 l.holding.length ++ be1 (if n = 12 then l.outbound.length + 1 else l.outbound.length) ++
        [l.lastError.code] ++ be2 l.good ++ be1 l.bad ++ be1 l.overruns ++ be1 l.discards))
        (s.setLink n { l with lastError := .none, good := 0, bad := 0, overruns := 0, discards := 0 })))

/-! ### The Command Interpreter -/

/-- The interpreter takes the head frame of CL's holding queue when it has no current command: a frame of a known type
and length becomes the current command, any other is discarded with a TYPE or LENGTH error on link 12. And it places the
completion at the head of its list when CL's outbound queue has a free entry. -/
def Obligations.CommandsAreTakenAndDonsPlaced : Prop :=
  (∀ (body : List Byte) (rest : List (List Byte)) (s : State), s.resetPin = false → s.current = none →
    s.links[cl].holding = body :: rest → exec .commandTake s = .next (
      let t := s.setLink cl { s.links[cl] with holding := rest }
      match decodeCommand body with
      | .command c => { t with current := some c }
      | .unknownType => t.linkError cl .type
      | .wrongLength => t.linkError cl .length)) ∧
  (∀ s : State, s.current ≠ none ∨ s.links[cl].holding = [] → exec .commandTake s = .next s) ∧
  (∀ (d : Done) (rest : List Done) (s : State), s.resetPin = false → s.completions = d :: rest →
    exec .don s = .next (
      if s.links[cl].outbound.length < 32 then { s.place cl (.don d) with completions := rest } else s)) ∧
  (∀ s : State, s.completions = [] → exec .don s = .next s)

/-- ASTA forms the selected list and the four counts from the records as they stand and makes the dropped-alert mark no;
another selector is refused BAD_FIELD. STPA sets and RSMA clears the stop-all flag, each answered with its value
before. The order of the ASTA fields (count and entries, next number, four counts, flags) is the model's deduction
(assumption 9), and so is the one byte of each of the four counts (assumption 7). -/
def Obligations.AlertStatusAndStopAll : Prop :=
  (∀ (tag selector first : Byte) (s : State), InterpreterServes (.asta tag selector first) s →
    (selector.toNat = 0 ∨ 4 < selector.toNat → ServesRefusal (.asta tag selector first) tag .badField s) ∧
    (1 ≤ selector.toNat → selector.toNat ≤ 4 → ∃ (entries next : List Byte) (yields : List Bool),
      exec (.asta tag selector first) s = .next (served (.rsp tag 0x30 .ok (entries ++ next ++
        [BitVec.ofNat 8 ((List.finRange 64).countP fun (i : Fin 64) => s.slots[i].limits.active),
          BitVec.ofNat 8 ((List.finRange 16).countP fun (k : Fin 16) => s.lots[k].limits.active),
          BitVec.ofNat 8 s.alarms.length,
          BitVec.ofNat 8 ((List.finRange 13).countP fun (n : Fin 13) => s.links[n].lastError != .none)] ++
        flagBytes (yields ++ [s.stopAll, s.dropped]))) { s with dropped := false }) ∧
      (selector.toNat = 1 → ∃ page : List (Fin 64), page.length ≤ 8 ∧ page.Pairwise (· < ·) ∧
        (∀ i ∈ page, first.toNat ≤ i.val ∧ s.slots[i].limits.active = true) ∧
        (∀ i : Fin 64, first.toNat ≤ i.val → s.slots[i].limits.active = true → i ∉ page →
          page.length = 8 ∧ ∀ j ∈ page, j < i) ∧
        entries = be1 page.length ++ (page.flatMap fun i => be1 i.val ++ binSetBytes s.slots[i].limits.bins) ∧
        yields = page.map (fun i => s.slots[i].limits.yield == .breach) ∧
        (page = [] → next = [0xFF]) ∧
        (∀ i : Fin 64, page.getLast? = some i → next =
          [if ∃ j : Fin 64, i < j ∧ s.slots[j].limits.active = true then BitVec.ofNat 8 (i.val + 1) else 0xFF])) ∧
      (selector.toNat = 2 → ∃ page : List (Fin 16), page.length ≤ 8 ∧ page.Pairwise (· < ·) ∧
        (∀ k ∈ page, first.toNat ≤ k.val ∧ s.lots[k].limits.active = true) ∧
        (∀ k : Fin 16, first.toNat ≤ k.val → s.lots[k].limits.active = true → k ∉ page →
          page.length = 8 ∧ ∀ j ∈ page, j < k) ∧
        entries = be1 page.length ++ (page.flatMap fun k => be1 k.val ++ binSetBytes s.lots[k].limits.bins) ∧
        yields = page.map (fun k => s.lots[k].limits.yield == .breach) ∧
        (page = [] → next = [0xFF]) ∧
        (∀ k : Fin 16, page.getLast? = some k → next =
          [if ∃ j : Fin 16, k < j ∧ s.lots[j].limits.active = true then BitVec.ofNat 8 (k.val + 1) else 0xFF])) ∧
      (selector.toNat = 3 → next = [] ∧ yields = [] ∧
        entries = be1 s.alarms.length ++ (s.alarms.flatMap fun p =>
          be1 p.1.val ++ be1 (p.2.val + 1) ++ [slotByte s.testers[p.1].bindings[p.2].slot]) ∧
        s.alarms.Pairwise (fun p q => p.1 < q.1 ∨ (p.1 = q.1 ∧ p.2 < q.2)) ∧
        ∀ (n : Fin 12) (a : Fin 4), (n, a) ∈ s.alarms ↔ s.testers[n].bindings[a].alarm = true) ∧
      (selector.toNat = 4 → next = [] ∧ yields = [] ∧
        (let list := (List.finRange 13).filter fun (n : Fin 13) => s.links[n].lastError != .none
        entries = be1 list.length ++ list.flatMap fun n => be1 n.val ++ [s.links[n].lastError.code])))) ∧
  (∀ (tag : Byte) (s : State), InterpreterServes (.stpa tag) s →
    exec (.stpa tag) s = .next (served (.rsp tag 0x25 .ok [if s.stopAll then 0x80 else 0]) { s with stopAll := true })) ∧
  (∀ (tag : Byte) (s : State), InterpreterServes (.rsma tag) s →
    exec (.rsma tag) s = .next (served (.rsp tag 0x26 .ok [if s.stopAll then 0x80 else 0]) { s with stopAll := false }))

/-- CLRA in one item: its answer carries the number of CANCELLED completions, which join the completion list after it:
the export's, the Sweep Unit's jobs in order, the pending opens by slot, the retirements by lot entry. Lots become FREE,
alias entries unbound, slots that held maps enter CLEARING at the tail of the Clear Unit's list, pending opens go with
their identities, FREE slots stay, and the directory, the pins, the close sequence counter, the staging, the jobs, the
export and the stop-all flag are cleared. Recipes, links and site maps stay. That the number of CANCELLED completions
takes one byte is the model's deduction (assumption 7). -/
def Obligations.ClearAllEndsAllWork : Prop :=
  ∀ (tag : Byte) (s : State), EngineTakes (.clra tag) s → exec (.clra tag) s = .next (
    let dones : List Done :=
      (match s.transfer with
        | some x => [⟨x.tag, 0x1C, .cancelled, be1 x.slot.val ++ be2 x.nextChunk⟩]
        | none => []) ++
      (s.jobs.map fun j => ⟨j.tag, if j.kind = .sweep then 0x17 else 0x28, .cancelled, be1 j.slot.val⟩) ++
      ((List.finRange 64).flatMap fun (i : Fin 64) => match s.slots[i].state, s.slots[i].pendingOpen with
        | .clearing, some o => [⟨o.tag, 0x16, .cancelled, be1 i.val⟩]
        | _, _ => []) ++
      ((List.finRange 16).flatMap fun (k : Fin 16) => match s.lots[k].state, s.lots[k].retirement with
        | .retiring, some t => [⟨t.tag, 0x14, .cancelled, be1 k.val⟩]
        | _, _ => [])
    { answered (.rsp tag 0x27 .ok (be1 dones.length)) { s with
        staging := none
        testers := Vector.ofFn fun n => { s.testers[n] with bindings := Vector.replicate 4 Binding.unbound }
        lots := Vector.replicate 16 Lot.free
        slots := Vector.ofFn fun i => match s.slots[i].state with
          | .free => s.slots[i]
          | .clearing => { s.slots[i] with pendingOpen := none, identity := none }
          | .opened | .closing | .closed | .exporting => Slot.empty .clearing s.slots[i].cells
        clearList := s.clearList ++ (List.finRange 64).filter fun (i : Fin 64) =>
          s.slots[i].state != .free && s.slots[i].state != .clearing
        directory := [], pinCount := 0, closeSeq := 0, jobs := [], transfer := none, stopAll := false } with
      completions := s.completions ++ dones })

/-! ### The Collation Engine -/

/-- When a source has work, and which one the engine takes: the first that has work in circular order from the
pointer. -/
def Obligations.ArbiterTakesTheFirstWithWork : Prop :=
  (∀ (s : State) (n : Fin 12), s.hasWork (tl n) = true ↔
    s.links[tl n].state ≠ .stopped ∧ s.links[tl n].holding ≠ [] ∧ s.links[tl n].outbound.length < 4) ∧
  (∀ s : State, s.hasWork cl = true ↔
    (∃ c : Instr, s.current = some c ∧ c.selfServed = false) ∧ s.links[cl].outbound.length < 32 ∧
      s.completions = []) ∧
  (∀ (s : State) (n : Fin 13), s.nextSource = some n ↔
    s.hasWork n = true ∧ ∀ k : Fin 13, k - s.pointer < n - s.pointer → s.hasWork k = false) ∧
  (∀ s : State, s.nextSource = none ↔ ∀ k : Fin 13, s.hasWork k = false)

/-- FRAME_DISCARD: the engine takes a frame of an unknown type or of a length wrong for its type: it leaves the holding
queue, a link drained by that stops, the pointer moves past the link, the error is counted, and there is no answer. -/
def Obligations.UnfitFramesAreDiscarded : Prop :=
  ∀ (n : Fin 12) (body : List Byte) (s : State), EngineTakesFrame n body s →
    (let l := s.links[tl n]
    let t := { s.setLink (tl n) { l with
      holding := l.holding.tail
      state := if l.state = .draining ∧ l.receiver = .idle ∧ l.holding.tail = [] then .stopped else l.state } with
      pointer := tl n + 1 }
    s.takeFrame n = t ∧
    (decodeReport n body = .unknownType → exec (.frameDiscard n) s = .next (t.linkError (tl n) .type)) ∧
    (decodeReport n body = .wrongLength → exec (.frameDiscard n) s = .next (t.linkError (tl n) .length)) ∧
    (∀ c : Instr, decodeReport n body = .command c → exec (.frameDiscard n) s = .next s))

/-- A TDR with a bad count or length, and a TDR, CLQ or RTP whose alias is outside 1 to 4, unbound, or bound to a slot
that is not OPEN: answered with that result and advice STOP, with nothing listed and no record changed. -/
def Obligations.UnresolvedReportsAreStopped : Prop :=
  (∀ (n : Fin 12) (aliasNo count : Byte) (x0 y0 : Word16) (results : List Byte) (s : State),
    EngineTakesReport n (.tdr n aliasNo x0 y0 count results) s →
    (count.toNat = 0 ∨ 32 < count.toNat ∨ results.length ≠ 2 * count.toNat →
      exec (.tdr n aliasNo x0 y0 count results) s =
        .next (reported n [] (.tda aliasNo .malformed .stop []) (s.takeFrame n))) ∧
    (∀ v : Verdict, 1 ≤ count.toNat → count.toNat ≤ 32 → results.length = 2 * count.toNat →
      EndsWith n aliasNo v s → exec (.tdr n aliasNo x0 y0 count results) s =
        .next (reported n [] (.tda aliasNo v .stop []) (s.takeFrame n)))) ∧
  (∀ (n : Fin 12) (aliasNo x y : Byte) (v : Verdict) (s : State),
    EngineTakesReport n (.clq n aliasNo x y) s → EndsWith n aliasNo v s → exec (.clq n aliasNo x y) s =
      .next (reported n [] (.cla aliasNo v .stop ⟨.untested, 0, 0, none⟩ false) (s.takeFrame n))) ∧
  (∀ (n : Fin 12) (aliasNo maxCount : Byte) (start : Word16) (v : Verdict) (s : State),
    EngineTakesReport n (.rtp n aliasNo start maxCount) s → EndsWith n aliasNo v s →
    exec (.rtp n aliasNo start maxCount) s =
      .next (reported n [] (.rta aliasNo v .stop none []) (s.takeFrame n)))

/-- A resolved TDR: the site results in the order listed, the limit evaluations when a tally moved, the run state, the
advice as they leave it, and the answer with one outcome per site result; no other slot, no other lot entry and no other
alias entry is changed. What `settle` leaves in the slot and its lot, and which alerts it offers, is said whole by
Obligations.EvaluationOffersEachChange; what `applySites` and `countedBins` do, by Obligations.KeptBinFollowsThePolicy,
Obligations.SiteResultTable and Obligations.RunStateAndAdvice. -/
def Obligations.ResolvedReportIsApplied : Prop :=
  ∀ (n : Fin 12) (aliasNo count : Byte) (x0 y0 : Word16) (results : List Byte) (a : Fin 4) (i : Fin 64) (s : State),
    EngineTakesReport n (.tdr n aliasNo x0 y0 count results) s →
    1 ≤ count.toNat → count.toNat ≤ 32 → results.length = 2 * count.toNat → ResolvesTo n aliasNo a i s →
    ∃ (w : Wafer) (outcomes : List SiteOutcome) (t : State) (limitAlerts runAlerts : List Alert) (e : Binding),
      applySites (s.recipeOfSlot i) n s.testers[n].sites x0.toInt y0.toInt (siteResults results) (s.wafer i) =
        (w, outcomes) ∧
      outcomes.length = count.toNat ∧
      ((s.takeFrame n).settle i w) = (t, limitAlerts) ∧
      runSteps (s.recipeOfSlot i) n a i (countedBins (s.recipeOfSlot i) (siteResults results) outcomes)
        s.testers[n].bindings[a] = (e, runAlerts) ∧
      exec (.tdr n aliasNo x0 y0 count results) s = .next (reported n (limitAlerts ++ runAlerts)
        (.tda aliasNo
          (if .appliedNew ∈ outcomes ∨ .appliedRetest ∈ outcomes ∨ .kept ∈ outcomes then .ok else .noneTaken)
          (if s.stopAll = true then .stop
            else if e.alarm = true then .pause
            else if (s.recipeOfSlot i).scalars.advice = .pause ∧ t.slots[i].limits.active = true then .pause
            else .continue)
          outcomes)
        (t.setBinding n a e)) ∧
      (∀ j : Fin 64, j ≠ i → t.slots[j] = s.slots[j]) ∧
      (∀ k : Fin 16, s.slots[i].identity.map Identity.lot ≠ some k → t.lots[k] = s.lots[k]) ∧
      t.testers = s.testers ∧ t.recipes = s.recipes ∧ t.directory = s.directory

/-- One site result, in the order of the tests: SITE_OFF, OFF_MAP, BAD_BIN, then by the cell's status; what each does to
the cell, the tallies of the slot and, alike, of its lot, and the shadowed count. And the tally moves themselves, and
what writing a cell of a canonical map does. -/
def Obligations.SiteResultTable : Prop :=
  (∀ (r : Recipe) (n : Fin 12) (sites : Vector SiteEntry 32) (x0 y0 : Int) (k b : Nat) (w : Wafer),
    (32 ≤ k → applySite r n sites x0 y0 (k, b) w = (w, .siteOff)) ∧
    (∀ site : Fin 32, k = site.val →
      applySite r n sites x0 y0 (k, b) w =
        (let x := x0 + sites[site].dx
        let y := y0 + sites[site].dy
        let i := y.toNat * w.slot.cols + x.toNat
        let c := w.slot.cell i
        if sites[site].enabled = false then (w, .siteOff)
        else if ¬ (0 ≤ x ∧ x < w.slot.cols ∧ 0 ≤ y ∧ y < w.slot.rows) then (w, .offMap)
        else match r.binOf b with
          | none => (w, .badBin)
          | some bin => match c.status with
            | .excluded => (w, .excluded)
            | .forced =>
              ({ w with slot := { w.slot with shadowed := min 65535 (w.slot.shadowed + 1) } }, .shadowed)
            | .untested => ((w.write i ⟨.tested, bin, 1, some ⟨n, site⟩⟩).tally (Tallies.add r bin), .appliedNew)
            | .tested =>
              if r.scalars.attemptLimit ≤ c.attempts then (w, .exhausted)
              else
                let u := w.write i ⟨.tested, r.keptBin c.bin bin, c.attempts + 1, some ⟨n, site⟩⟩
                if r.keptBin c.bin bin = c.bin then (u, .kept)
                else (u.tally (Tallies.move r c.bin bin), .appliedRetest)))) ∧
  (∀ (r : Recipe) (b : Nat) (bin : Fin 64), r.binOf b = some bin ↔
    b = bin.val ∧ bin ≠ 0 ∧ r.entries[bin].defined = true) ∧
  (∀ (r : Recipe) (b d : Fin 64) (t : Tallies),
    (Tallies.add r b t).tested = t.tested + 1 ∧
    (Tallies.add r b t).passed = t.passed + (if r.entries[b].cls = .pass then 1 else 0) ∧
    (Tallies.add r b t).counts[d] = t.counts[d] + (if d = b then 1 else 0)) ∧
  (∀ (r : Recipe) (c k d : Fin 64) (t : Tallies), c ≠ k →
    (Tallies.move r c k t).tested = t.tested ∧
    (Tallies.move r c k t).passed = t.passed + (if r.entries[k].cls = .pass then 1 else 0) -
      (if r.entries[c].cls = .pass then 1 else 0) ∧
    (Tallies.move r c k t).counts[d] =
      if d = k then t.counts[d] + 1 else if d = c then t.counts[d] - 1 else t.counts[d]) ∧
  (∀ (s : State) (i : Fin 64) (d : Identity), s.slots[i].identity = some d →
    s.wafer i = ⟨s.slots[i], s.lots[d.lot].totals, false⟩) ∧
  (∀ (w : Wafer) (f : Tallies → Tallies),
    w.tally f = ⟨{ w.slot with tallies := f w.slot.tallies }, f w.totals, true⟩) ∧
  (∀ (w : Wafer) (i : Nat) (c : Cell),
    w.write i c = { w with slot := { w.slot with cells := (w.write i c).slot.cells } } ∧
    (w.slot.cells.wf = true → (w.write i c).slot.cells.wf = true ∧
      ∀ k : Nat, (w.write i c).slot.cell k = if k = i then c else w.slot.cell k))

/-- The kept bin of a retest under each policy, and the outcome it gives: KEPT when it is the old bin and APPLIED_RETEST
otherwise, so that under LAST a different bin and under BEST a different bin of equal rank is APPLIED_RETEST; every site
result of a report is judged by the one recipe. -/
def Obligations.KeptBinFollowsThePolicy : Prop :=
  (∀ (r : Recipe) (c s : Fin 64),
    (r.scalars.policy = .last → r.keptBin c s = s) ∧
    (r.scalars.policy = .best →
      (r.entries[c].rank < r.entries[s].rank → r.keptBin c s = c) ∧
      (r.entries[s].rank ≤ r.entries[c].rank → r.keptBin c s = s)) ∧
    (r.scalars.policy = .stickyPass →
      (r.entries[c].cls = .pass → r.keptBin c s = c) ∧ (r.entries[c].cls = .fail → r.keptBin c s = s))) ∧
  (∀ (r : Recipe) (n : Fin 12) (sites : Vector SiteEntry 32) (x0 y0 : Int) (k b i : Nat) (site : Fin 32)
    (s : Fin 64) (w : Wafer),
    placeOf sites w.slot x0 y0 k = .cell site i → r.binOf b = some s → (w.slot.cell i).status = .tested →
    (w.slot.cell i).attempts < r.scalars.attemptLimit →
    (applySite r n sites x0 y0 (k, b) w).2 =
        (if r.keptBin (w.slot.cell i).bin s = (w.slot.cell i).bin then .kept else .appliedRetest) ∧
      (r.scalars.policy = .last → s ≠ (w.slot.cell i).bin →
        (applySite r n sites x0 y0 (k, b) w).2 = .appliedRetest) ∧
      (r.scalars.policy = .best → s ≠ (w.slot.cell i).bin →
        r.entries[s].rank = r.entries[(w.slot.cell i).bin].rank →
        (applySite r n sites x0 y0 (k, b) w).2 = .appliedRetest)) ∧
  (∀ (r : Recipe) (n : Fin 12) (sites : Vector SiteEntry 32) (x0 y0 : Int) (p : Nat × Nat) (ps : List (Nat × Nat))
    (w : Wafer),
    applySites r n sites x0 y0 [] w = (w, []) ∧
    applySites r n sites x0 y0 (p :: ps) w =
      (let a := applySite r n sites x0 y0 p w
      let rest := applySites r n sites x0 y0 ps a.1
      (rest.1, a.2 :: rest.2)))

/-- A resolved CLQ: the cell at (x, y) with its retest-allowed answer, or OFF_MAP with blank fields; no record is
changed. -/
def Obligations.CellQueryAnswersTheCell : Prop :=
  ∀ (n : Fin 12) (aliasNo x y : Byte) (a : Fin 4) (i : Fin 64) (s : State),
    EngineTakesReport n (.clq n aliasNo x y) s → ResolvesTo n aliasNo a i s →
    exec (.clq n aliasNo x y) s = .next (reported n []
      (let sl := s.slots[i]
      let r := s.recipeOfSlot i
      let c := sl.cell (y.toNat * sl.cols + x.toNat)
      let advice : Advice :=
        if s.stopAll = true then .stop
        else if s.testers[n].bindings[a].alarm = true then .pause
        else if r.scalars.advice = .pause ∧ sl.limits.active = true then .pause
        else .continue
      if x.toNat < sl.cols ∧ y.toNat < sl.rows then
        .cla aliasNo .ok advice c (decide (c.status = .tested ∧ r.entries[c.bin].cls = .fail ∧
          r.entries[c.bin].eligible = true ∧ c.attempts < r.scalars.attemptLimit))
      else .cla aliasNo .offMap advice ⟨.untested, 0, 0, none⟩ false) (s.takeFrame n))

/-- A resolved RTP lists retest-allowed cells of the map from the start index, ascending, up to the clamped maximum; a
cell it passes over lies beyond a full list; the continuation is END exactly when none was passed over, and else the
index one above the last listed. No record is changed. -/
def Obligations.RetestPickWalksTheMap : Prop :=
  (∀ (n : Fin 12) (aliasNo maxCount : Byte) (start : Word16) (a : Fin 4) (i : Fin 64) (s : State),
    EngineTakesReport n (.rtp n aliasNo start maxCount) s → ResolvesTo n aliasNo a i s →
    (let sl := s.slots[i]
    let r := s.recipeOfSlot i
    let allowed : Nat → Prop := fun k => k < sl.size ∧ start.toNat ≤ k ∧ r.retestAllowed (sl.cell k) = true
    let most := if maxCount.toNat = 0 then 1 else min maxCount.toNat 16
    ∃ (list : List Nat) (next : Option Nat),
      exec (.rtp n aliasNo start maxCount) s = .next (reported n []
        (.rta aliasNo .ok (adviceOf s.stopAll s.testers[n].bindings[a].alarm r sl.limits) next
          (list.map fun k => (k % sl.cols, k / sl.cols))) (s.takeFrame n)) ∧
      list.length ≤ most ∧ list.Pairwise (· < ·) ∧ (∀ k ∈ list, allowed k) ∧
      (∀ k, allowed k → k ∉ list → list.length = most ∧ (∀ j ∈ list, j < k) ∧ next = list.getLast?.map (· + 1)) ∧
      ((∀ k, allowed k → k ∈ list) → next = none))) ∧
  (∀ (r : Recipe) (c : Cell), r.retestAllowed c = true ↔ c.status = .tested ∧ r.entries[c.bin].cls = .fail ∧
      r.entries[c.bin].eligible = true ∧ c.attempts < r.scalars.attemptLimit)

/-- The run state after a counted site result, and the advice of an answer. A site result counts when its outcome is
APPLIED_NEW, APPLIED_RETEST or KEPT, and then with the soft bin it posted, whatever bin the cell keeps; every other
outcome is passed over. The site results of a report are the pairs of bytes after its count. -/
def Obligations.RunStateAndAdvice : Prop :=
  (∀ (site bin : Byte) (rest : List Byte), siteResults [] = [] ∧ siteResults [site] = [] ∧
    siteResults (site :: bin :: rest) = (site.toNat, bin.toNat) :: siteResults rest) ∧
  (∀ (r : Recipe) (k b : Nat) (o : SiteOutcome) (ps : List (Nat × Nat)) (os : List SiteOutcome),
    countedBins r [] [] = [] ∧ countedBins r ((k, b) :: ps) (o :: os) =
      (match o with
        | .appliedNew | .appliedRetest | .kept => (r.binOf b).toList
        | .exhausted | .shadowed | .excluded | .badBin | .offMap | .siteOff => []) ++ countedBins r ps os) ∧
  (∀ (r : Recipe) (n : Fin 12) (sites : Vector SiteEntry 32) (x0 y0 : Int) (k b : Nat) (w : Wafer),
    (applySite r n sites x0 y0 (k, b) w).2 = .appliedNew ∨ (applySite r n sites x0 y0 (k, b) w).2 = .appliedRetest ∨
      (applySite r n sites x0 y0 (k, b) w).2 = .kept → ∃ s : Fin 64, r.binOf b = some s ∧ b = s.val) ∧
  (∀ (r : Recipe) (e : Binding) (b : Fin 64), runStep r e b =
    if r.scalars.runLimit = 0 then e
    else if r.entries[b].cls = .pass then { e with runBin := none, runLength := 0 }
    else
      let length := if e.runBin = some b then min (e.runLength + 1) r.scalars.runLimit else 1
      { e with
        runBin := some b, runLength := length
        alarm := if r.scalars.runLimit ≤ length then true else e.alarm }) ∧
  (∀ (r : Recipe) (n : Fin 12) (a : Fin 4) (i : Fin 64) (b : Fin 64) (rest : List (Fin 64)) (e : Binding),
    runSteps r n a i [] e = (e, []) ∧
    runSteps r n a i (b :: rest) e = ((runSteps r n a i rest (runStep r e b)).1,
      (if e.alarm = false ∧ (runStep r e b).alarm = true then [.runAlarm .enter n (a.val + 1) i b] else []) ++
        (runSteps r n a i rest (runStep r e b)).2)) ∧
  (∀ (stopAll alarm : Bool) (r : Recipe) (l : LimitStates), adviceOf stopAll alarm r l =
    if stopAll = true then .stop else if alarm = true then .pause
    else if r.scalars.advice = .pause ∧ (l.yield = .breach ∨ ∃ b : Fin 64, l.bins[b] = .breach) then .pause
    else .continue)

/-! ### Overrides -/

/-- FRCL and UFCL on an OPEN slot, check by check, with the cell, the tally moves and the answers; on any other slot, or
a slot number above 63, they are refused. -/
def Obligations.ForceAndUnforceCell : Prop :=
  (∀ (tag slot x y bin : Byte) (s : State), EngineTakes (.frcl tag slot x y bin) s →
    (64 ≤ slot.toNat → Refuses (.frcl tag slot x y bin) tag .badField s) ∧
    (∀ i : Fin 64, slot.toNat = i.val →
      (let sl := s.slots[i]
      let r := s.recipeOfSlot i
      let k := y.toNat * sl.cols + x.toNat
      let c := sl.cell k
      let w := (s.wafer i)
      exec (.frcl tag slot x y bin) s = .next (
        if sl.state ≠ .opened then answered (.rsp tag 0x20 .wrongState []) s
        else if ¬ (x.toNat < sl.cols ∧ y.toNat < sl.rows) then answered (.rsp tag 0x20 .range []) s
        else if c.status = .excluded then answered (.rsp tag 0x20 .excludedCell []) s
        else match r.binOf bin.toNat with
          | none => answered (.rsp tag 0x20 .badBin []) s
          | some b =>
            let u := w.write k ⟨.forced, b, c.attempts, none⟩
            let v := if c.status = .untested then u.tally (Tallies.add r b)
              else if c.bin = b then u else u.tally (Tallies.move r c.bin b)
            let t := s.settle i v
            answered (.rsp tag 0x20 .ok (be1 c.status.code ++ be1 c.bin.val)) (t.1.offerAll 1 t.2))))) ∧
  (∀ (tag slot x y : Byte) (s : State), EngineTakes (.ufcl tag slot x y) s →
    (64 ≤ slot.toNat → Refuses (.ufcl tag slot x y) tag .badField s) ∧
    (∀ i : Fin 64, slot.toNat = i.val →
      (let sl := s.slots[i]
      let k := y.toNat * sl.cols + x.toNat
      let c := sl.cell k
      exec (.ufcl tag slot x y) s = .next (
        if sl.state ≠ .opened then answered (.rsp tag 0x21 .wrongState []) s
        else if ¬ (x.toNat < sl.cols ∧ y.toNat < sl.rows) then answered (.rsp tag 0x21 .range []) s
        else if c.status ≠ .forced then answered (.rsp tag 0x21 .notForced []) s
        else answered (.rsp tag 0x21 .ok [])
          (s.commit i ((s.wafer i).write k { c with status := .tested, source := none }))))))

/-- EXCL and INCL on an OPEN slot whose cell records are canonical: the rectangle of the two corners brought onto the
grid, the cells after (a cell EXCLUDED before stays as it is), the map size, the tallies and the numbers answered; on any
other slot, or a slot number above 63, they are refused. -/
def Obligations.ExcludeAndIncludeRectangle : Prop :=
  (∀ (tag slot x1 y1 x2 y2 : Byte) (s : State), 64 ≤ slot.toNat →
    (EngineTakes (.excl tag slot x1 y1 x2 y2) s → Refuses (.excl tag slot x1 y1 x2 y2) tag .badField s) ∧
    (EngineTakes (.incl tag slot x1 y1 x2 y2) s → Refuses (.incl tag slot x1 y1 x2 y2) tag .badField s)) ∧
  (∀ (tag slot x1 y1 x2 y2 : Byte) (i : Fin 64) (s : State), slot.toNat = i.val → s.slots[i].state ≠ .opened →
    (EngineTakes (.excl tag slot x1 y1 x2 y2) s → Refuses (.excl tag slot x1 y1 x2 y2) tag .wrongState s) ∧
    (EngineTakes (.incl tag slot x1 y1 x2 y2) s → Refuses (.incl tag slot x1 y1 x2 y2) tag .wrongState s)) ∧
  ∀ (tag slot x1 y1 x2 y2 : Byte) (i : Fin 64) (s : State), slot.toNat = i.val → s.slots[i].state = .opened →
    s.slots[i].cells.wf = true → 1 ≤ s.slots[i].cols → 1 ≤ s.slots[i].rows →
    (let sl := s.slots[i]
    let xa := min x1.toNat (sl.cols - 1)
    let xb := min x2.toNat (sl.cols - 1)
    let ya := min y1.toNat (sl.rows - 1)
    let yb := min y2.toNat (sl.rows - 1)
    let inside : Nat → Bool := fun k => decide (k < sl.size ∧
      min xa xb ≤ k % sl.cols ∧ k % sl.cols ≤ max xa xb ∧ min ya yb ≤ k / sl.cols ∧ k / sl.cols ≤ max ya yb)
    let number : (Cell → Bool) → Nat := fun p => (List.range sl.size).countP fun k => inside k && p (sl.cell k)
    (EngineTakes (.excl tag slot x1 y1 x2 y2) s → ∃ w : Wafer,
        exec (.excl tag slot x1 y1 x2 y2) s = .next (answered (.rsp tag 0x22 .ok
          (be3 (number fun c => c.status != .excluded) ++ be3 (number isTested)))
          ((s.settle i w).1.offerAll 1 (s.settle i w).2)) ∧
        (∀ k : Nat, w.slot.cell k =
          if inside k = true ∧ (sl.cell k).status ≠ .excluded then ⟨.excluded, 0, 0, none⟩ else sl.cell k) ∧
        w.slot.mapSize = sl.mapSize - number (fun c => c.status != .excluded) ∧
        (let r := s.recipeOfSlot i
        let fallen : Tallies → Tallies → Prop := fun after before =>
          after.tested = before.tested - number isTested ∧
          after.passed = before.passed - number (fun c => isTested c && r.entries[c.bin].cls == .pass) ∧
          ∀ b : Fin 64, after.counts[b] = before.counts[b] - number (fun c => isTested c && c.bin == b)
        fallen w.slot.tallies sl.tallies ∧ fallen w.totals (s.wafer i).totals) ∧
        (w.moved = true ↔ 0 < number isTested) ∧
        w.slot = { sl with cells := w.slot.cells, mapSize := w.slot.mapSize, tallies := w.slot.tallies }) ∧
    (EngineTakes (.incl tag slot x1 y1 x2 y2) s → ∃ w : Wafer,
        exec (.incl tag slot x1 y1 x2 y2) s = .next (answered (.rsp tag 0x23 .ok
          (be3 (number fun c => c.status == .excluded))) (s.commit i w)) ∧
        (∀ k : Nat, w.slot.cell k =
          if inside k = true ∧ (sl.cell k).status = .excluded then ⟨.untested, 0, 0, none⟩ else sl.cell k) ∧
        w.slot.mapSize = sl.mapSize + number (fun c => c.status == .excluded) ∧
        w.totals = (s.wafer i).totals ∧
        w.slot = { sl with cells := w.slot.cells, mapSize := w.slot.mapSize }))

/-! ### Limits -/

/-- R97 and R99: the breach tests of a bin ceiling and of a yield floor, on exact products; a slot is judged on its own
counts by the wafer floor, and a lot on its totals, which are carry plus member sum, by the lot floor. -/
def Obligations.BreachTests : Prop :=
  (∀ C H N T count : Nat,
    (ceilingTest C H N T count .clear = .breach ↔ N ≤ T ∧ 10000 * count > C * T) ∧
    (ceilingTest C H N T count .breach = .clear ↔ 10000 * count ≤ max (C - H) 0 * T) ∧
    (count ≤ T → ceilingTest 10000 H N T count .clear = .clear) ∧
    (C ≤ H → (ceilingTest C H N T count .breach = .clear ↔ count = 0))) ∧
  (∀ F H N T P : Nat,
    (yieldTest F H N T P .clear = .breach ↔ N ≤ T ∧ 10000 * P < F * T) ∧
    (yieldTest F H N T P .breach = .clear ↔ 10000 * P ≥ min (F + H) 10000 * T) ∧
    (10000 ≤ F + H → P ≤ T → (yieldTest F H N T P .breach = .clear ↔ P = T))) ∧
  (∀ (r : Recipe) (floor : Nat) (t : Tallies) (l : LimitStates),
    (∀ b : Fin 64, (evaluate r floor t l).bins[b] =
      if b ≠ 0 ∧ r.entries[b].defined = true ∧ r.entries[b].cls = .fail ∧ 0 < r.entries[b].ceiling then
        ceilingTest r.entries[b].ceiling r.scalars.hysteresis r.scalars.minSample t.tested t.counts[b] l.bins[b]
      else l.bins[b]) ∧
    (evaluate r floor t l).yield = if 0 < floor then
      yieldTest floor r.scalars.hysteresis r.scalars.minSample t.tested t.passed l.yield else l.yield) ∧
  (∀ (s : State) (i : Fin 64), (s.evaluateSlot i).1.slots[i].limits =
    evaluate (s.recipeOfSlot i) (s.recipeOfSlot i).scalars.waferFloor s.slots[i].tallies s.slots[i].limits) ∧
  (∀ (s : State) (k : Fin 16), (s.evaluateLot k).1.lots[k].limits =
    evaluate (s.recipeOfLot k) (s.recipeOfLot k).scalars.lotFloor s.lots[k].totals s.lots[k].limits) ∧
  (∀ (s : State) (k : Fin 16) (b : Fin 64), TallyLaw s → s.lots[k].state ≠ .free →
    s.lots[k].totals.counts[b] = s.lots[k].carry.counts[b] + memberSum s k fun t => t.counts[b])

/-- A second evaluation of the same tallies finds every state held: it changes no state and offers no alert. -/
def Obligations.SecondEvaluationHoldsEveryState : Prop :=
  ∀ (r : Recipe) (floor : Nat) (t : Tallies) (l : LimitStates), floor ≤ 10000 →
    (evaluate r floor t (evaluate r floor t l)).bins = (evaluate r floor t l).bins ∧
    (evaluate r floor t (evaluate r floor t l)).yield = (evaluate r floor t l).yield ∧
    (evaluate r floor t (evaluate r floor t l)).seen = (evaluate r floor t l).seen ∧
    limitChanges r floor t (evaluate r floor t l) = []

/-- An evaluation of a slot or of a lot changes its limit states only, sets the breach-seen mark exactly when a breach
enters, and offers one alert, WAFER_LIMIT or LOT_LIMIT, for each state that changes, the bins ascending and the yield
last, each with the threshold, the tested count and the figure rounded down. An item that changes cells writes the slot
record and the lot's totals back and, when it made a tally move, evaluates the slot and then its lot, offering the slot's
alerts and then the lot's. A DIGEST job running on the slot has first read as many further cells as the free value says,
whatever that value is (assumption 3). -/
def Obligations.EvaluationOffersEachChange : Prop :=
  (∀ (s : State) (i : Fin 64), s.evaluateSlot i =
    (let r := s.recipeOfSlot i
    let sl := s.slots[i]
    ({ s with slots := s.slots.set i { sl with limits := evaluate r r.scalars.waferFloor sl.tallies sl.limits } },
      (limitChanges r r.scalars.waferFloor sl.tallies sl.limits).map (waferAlert i sl.identity)))) ∧
  (∀ (s : State) (k : Fin 16), s.evaluateLot k =
    (let r := s.recipeOfLot k
    let l := s.lots[k]
    ({ s with lots := s.lots.set k { l with limits := evaluate r r.scalars.lotFloor l.totals l.limits } },
      (limitChanges r r.scalars.lotFloor l.totals l.limits).map (lotAlert k l.ident)))) ∧
  (∀ (i : Fin 64) (d : Identity) (c : LimitChange), waferAlert i (some d) c =
    .waferLimit c.edge i d.lot.val d.wafer c.bin c.threshold c.tested c.figure) ∧
  (∀ (k : Fin 16) (ident : LotId) (c : LimitChange), lotAlert k (some ident) c =
    .lotLimit c.edge k ident c.bin c.threshold c.tested c.figure) ∧
  (∀ (s : State) (i : Fin 64), s.readAhead i =
    match s.jobs with
    | [] => s
    | j :: rest =>
      if j.kind = .digest ∧ j.slot = i then
        let upto := min (j.next + Config.cellsReadAhead s.freeIndex) j.stop
        { s with
          jobs := { j with
            next := max j.next upto
            register := digestCellsFrom j.register s.slots[i].cells j.next upto } :: rest
          freeIndex := s.freeIndex + 1 }
      else s) ∧
  (∀ (s : State) (i : Fin 64) (w : Wafer) (d : Identity), w.slot.identity = some d →
    s.commit i w = { s.readAhead i with
      slots := s.slots.set i w.slot
      lots := s.lots.set d.lot { s.lots[d.lot] with totals := w.totals } } ∧
    (w.moved = false → s.settle i w = (s.commit i w, [])) ∧
    (w.moved = true → s.settle i w =
      (let r := s.recipeAt w.slot.recipe
      let l := s.lots[d.lot]
      let q := s.recipeAt l.recipe
      ({ s.readAhead i with
          slots := s.slots.set i { w.slot with
            limits := evaluate r r.scalars.waferFloor w.slot.tallies w.slot.limits }
          lots := s.lots.set d.lot { l with
            totals := w.totals, limits := evaluate q q.scalars.lotFloor w.totals l.limits } },
        (limitChanges r r.scalars.waferFloor w.slot.tallies w.slot.limits).map (waferAlert i (some d)) ++
          (limitChanges q q.scalars.lotFloor w.totals l.limits).map (lotAlert d.lot l.ident))))) ∧
  (∀ (r : Recipe) (floor : Nat) (t : Tallies) (l : LimitStates),
    (let e := evaluate r floor t l
    let figure : Nat → Nat := fun count => if t.tested = 0 then 0 else 10000 * count / t.tested
    (e.seen = true ↔ l.seen = true ∨ (l.yield = .clear ∧ e.yield = .breach) ∨
      ∃ b : Fin 64, b ≠ 0 ∧ l.bins[b] = .clear ∧ e.bins[b] = .breach) ∧
    ∃ bins : List LimitChange, ∃ last : List LimitChange, limitChanges r floor t l = bins ++ last ∧
      bins.Pairwise (fun c d => c.bin < d.bin) ∧
      (∀ c : LimitChange, c ∈ bins ↔ c.bin ≠ 0 ∧
        c.threshold = r.entries[c.bin].ceiling ∧ c.tested = t.tested ∧ c.figure = figure t.counts[c.bin] ∧
        ((c.edge = .enter ∧ l.bins[c.bin] = .clear ∧ e.bins[c.bin] = .breach) ∨
          (c.edge = .clear ∧ l.bins[c.bin] = .breach ∧ e.bins[c.bin] = .clear))) ∧
      last = (if l.yield = e.yield then []
        else [⟨if e.yield = .breach then .enter else .clear, 0, floor, t.tested, figure t.passed⟩])))

/-! ### Recipes and the commands that read -/

/-- LDRC: the checks of each part in order, the clamping and its count, what part 1 stages, and the whole record that
part 2 commits. That the clamp counts take one byte each (assumption 7) and that bits 3 to 7 of a flag byte are read by
nothing (assumption 12) are the model's deductions; that a part byte other than 1 and 2 stands in the row of its body
length is its choice (assumption 11). -/
def Obligations.RecipeLoadStagesAndCommits : Prop :=
  (∀ (tag recipe part : Byte) (w : ScalarsWire) (entries : List EntryWire) (s : State),
    EngineTakes (.ldrcPart1 tag recipe part w entries) s →
    exec (.ldrcPart1 tag recipe part w entries) s = .next (
      if h : recipe.toNat < 8 ∧ 1 ≤ part.toNat ∧ part.toNat ≤ 2 ∧ w.policy.toNat ≤ 2 ∧ w.advice.toNat ≤ 1 then
        if ∃ k : Fin 16, s.lots[k].state ≠ .free ∧ s.lots[k].recipe = some ⟨recipe.toNat, h.1⟩ then
          answered (.rsp tag 0x10 .inUse []) s
        else
          let n := scalarClamps w + (entries.map entryClamps).sum
          answered (.rsp tag 0x10 .ok [BitVec.ofNat 8 n]) { s with staging := some {
            recipe := ⟨recipe.toNat, h.1⟩
            scalars := {
              policy := if w.policy = 0 then .last else if w.policy = 1 then .best else .stickyPass
              attemptLimit := max 1 (min 7 w.attemptLimit.toNat)
              waferFloor := min 10000 w.waferFloor.toNat
              lotFloor := min 10000 w.lotFloor.toNat
              minSample := max 1 w.minSample.toNat
              hysteresis := min 1000 w.hysteresis.toNat
              runLimit := if w.runLimit = 1 then 2 else w.runLimit.toNat
              advice := if w.advice = 0 then .continue else .pause }
            entries := entries.map storedEntry
            clamped := n } }
      else answered (.rsp tag 0x10 .badField []) s)) ∧
  (∀ (tag recipe part : Byte) (entries : List EntryWire) (s : State),
    EngineTakes (.ldrcPart2 tag recipe part entries) s →
    (8 ≤ recipe.toNat ∨ part.toNat = 0 ∨ 3 ≤ part.toNat →
      Refuses (.ldrcPart2 tag recipe part entries) tag .badField s) ∧
    (∀ r : Fin 8, recipe.toNat = r.val → 1 ≤ part.toNat → part.toNat ≤ 2 →
      ((∀ g, s.staging = some g → g.recipe ≠ r) → Refuses (.ldrcPart2 tag recipe part entries) tag .notStaged s) ∧
      (∀ g : Staging, s.staging = some g → g.recipe = r → exec (.ldrcPart2 tag recipe part entries) s = .next (
        if ∃ k : Fin 16, s.lots[k].state ≠ .free ∧ s.lots[k].recipe = some r then
          answered (.rsp tag 0x10 .inUse []) s
        else
          let table : Vector BinEntry 64 := Vector.ofFn fun b =>
            if b = 0 then BinEntry.reset else (g.entries ++ entries.map storedEntry).getD (b.val - 1) BinEntry.reset
          let st := if ∃ b : Fin 64, table[b].defined = true ∧ table[b].cls = .pass then RecipeState.valid else .invalid
          answered (.rsp tag 0x10 .ok ([st.code] ++ be1 (g.clamped + (entries.map entryClamps).sum)))
            { s with
              recipes := s.recipes.set r ⟨st, s.recipes[r].loadCount + 1, g.scalars, table⟩
              staging := none })))) ∧
  (∀ e : EntryWire, (e.flags.getLsbD 2 = false → storedEntry e = BinEntry.reset ∧ entryClamps e = 0) ∧
    (e.flags.getLsbD 2 = true → storedEntry e = {
        defined := true, cls := if e.flags.getLsbD 1 = true then .pass else .fail
        hardBin := if e.hardBin.toNat = 0 ∨ 8 < e.hardBin.toNat then 8 else e.hardBin.toNat
        rank := min 15 e.rank.toNat, ceiling := min 10000 e.ceiling.toNat, eligible := e.flags.getLsbD 0 } ∧
      entryClamps e = (if e.hardBin.toNat = 0 ∨ 8 < e.hardBin.toNat then 1 else 0) +
        (if 15 < e.rank.toNat then 1 else 0) + (if 10000 < e.ceiling.toNat then 1 else 0))) ∧
  (∀ w : ScalarsWire, scalarClamps w =
    (if w.attemptLimit.toNat = 0 ∨ 7 < w.attemptLimit.toNat then 1 else 0) +
    (if 10000 < w.waferFloor.toNat then 1 else 0) + (if 10000 < w.lotFloor.toNat then 1 else 0) +
    (if w.minSample.toNat = 0 then 1 else 0) + (if 1000 < w.hysteresis.toNat then 1 else 0) +
    (if w.runLimit.toNat = 1 then 1 else 0))

/-- RDRC, RDCL and FNDW change nothing: what each is refused for and what it answers. Under the laws of lives and of
lists the lookup of a lot entry and a wafer number gives a slot exactly when the slot has that identity. A cell record
is three bytes with the link of its last source, or 15, spread over the first two; a recipe entry is five bytes and the
scalars are twelve. The lengths of the FNDW answers (slot and state for FOUND, slot for OPENING, nothing for RETIRED and
NOT_FOUND) are the model's deduction (assumption 8), and so are the one byte of RDRC's load count and of RDCL's count
served (assumption 7). -/
def Obligations.RecordReadersAnswer : Prop :=
  (∀ (tag recipe part : Byte) (s : State), EngineTakes (.rdrc tag recipe part) s →
    (8 ≤ recipe.toNat ∨ (part.toNat ≠ 1 ∧ part.toNat ≠ 2) → Refuses (.rdrc tag recipe part) tag .badField s) ∧
    (∀ r : Fin 8, recipe.toNat = r.val → part.toNat = 1 ∨ part.toNat = 2 →
      exec (.rdrc tag recipe part) s = .next (
        let old := s.recipes[r]
        let used := decide (∃ k : Fin 16, s.lots[k].state ≠ .free ∧ s.lots[k].recipe = some r)
        let bins : List (Fin 64) := (List.finRange 64).filter fun (b : Fin 64) =>
          if part.toNat = 1 then decide (1 ≤ b.val ∧ b.val ≤ 31) else decide (32 ≤ b.val)
        answered (.rsp tag 0x11 .ok ([old.state.code, old.loadCount] ++
          (if part.toNat = 1 then old.scalars.bytes else []) ++
          (bins.flatMap fun (b : Fin 64) => old.entries[b].bytes) ++ [if used then 0x80 else 0])) s))) ∧
  (∀ (tag slot y x count : Byte) (s : State), EngineTakes (.rdcl tag slot y x count) s →
    (64 ≤ slot.toNat → Refuses (.rdcl tag slot y x count) tag .badField s) ∧
    (∀ i : Fin 64, slot.toNat = i.val → exec (.rdcl tag slot y x count) s = .next (
      let sl := s.slots[i]
      let n := min (if count.toNat = 0 then 1 else min count.toNat 64) (sl.cols - x.toNat)
      if sl.state = .free ∨ sl.state = .clearing then answered (.rsp tag 0x1F .wrongState []) s
      else if y.toNat < sl.rows ∧ x.toNat < sl.cols then
        answered (.rsp tag 0x1F .ok ([sl.state.code, y, x, BitVec.ofNat 8 n] ++
          (List.range n).flatMap fun k => (sl.cell (y.toNat * sl.cols + x.toNat + k)).record)) s
      else answered (.rsp tag 0x1F .range []) s))) ∧
  (∀ (tag : Byte) (ident : LotId) (wafer : Byte) (s : State), EngineTakes (.fndw tag ident wafer) s →
    (s.findLot ident = none → Refuses (.fndw tag ident wafer) tag .noLot s) ∧
    (∀ k : Fin 16, s.findLot ident = some k → exec (.fndw tag ident wafer) s = .next (answered (.rsp tag 0x1D .ok (
      match s.lookup k wafer.toNat with
      | some i =>
        if s.slots[i].state = .free ∨ s.slots[i].state = .clearing then [2, BitVec.ofNat 8 i.val]
        else [1, BitVec.ofNat 8 i.val, s.slots[i].state.code]
      | none =>
        if s.lots[k].members.any (fun m => decide (m.wafer = wafer.toNat) && m.retired) = true then [3] else [4])) s))) ∧
  (∀ (s : State) (k : Fin 16) (w : Nat) (i : Fin 64), LifeLaw s → ListsLaw s →
    (s.lookup k w = some i ↔ s.slots[i].identity = some ⟨k, w⟩)) ∧
  (∀ c : Cell, c.attempts ≤ 7 → ∃ a b : Byte,
    c.record = [a, b, match c.source with | some src => BitVec.ofNat 8 src.site.val | none => 0] ∧
    (let k := match c.source with | some src => src.link.val | none => 15
    a.toNat = k / 4 * 64 + ((match c.status with
      | .untested => 0 | .tested => 16 | .forced => 32 | .excluded => 48) + c.attempts) ∧
    b.toNat = k % 4 * 64 + c.bin.val)) ∧
  (∀ e : BinEntry, e.bytes = [
    BitVec.ofNat 8 ((if e.defined = true then 4 else 0) + (if e.cls = .pass then 2 else 0) +
      (if e.eligible = true then 1 else 0)),
    BitVec.ofNat 8 e.hardBin, BitVec.ofNat 8 e.rank, BitVec.ofNat 8 (e.ceiling / 256), BitVec.ofNat 8 e.ceiling]) ∧
  (∀ c : Scalars, c.bytes = [
    match c.policy with | .last => 0 | .best => 1 | .stickyPass => 2, BitVec.ofNat 8 c.attemptLimit,
    BitVec.ofNat 8 (c.waferFloor / 256), BitVec.ofNat 8 c.waferFloor,
    BitVec.ofNat 8 (c.lotFloor / 256), BitVec.ofNat 8 c.lotFloor,
    BitVec.ofNat 8 (c.minSample / 256), BitVec.ofNat 8 c.minSample,
    BitVec.ofNat 8 (c.hysteresis / 256), BitVec.ofNat 8 c.hysteresis,
    BitVec.ofNat 8 c.runLimit, match c.advice with | .continue => 0 | .pause => 1])

/-- WSUM and LSUM change nothing: the checks in order, the range cut to 32 and to 16 soft bins, the members served, and
the fields in order: WSUM's by its layout, LSUM's by the list of its rule, its soft bins and its members each preceded
by their count. A rollup is the sum of the counts of the defined soft bins that name its hard bin, and the eight of a
slot add up to its tested count; yields and shares are rounded down; an absent final yield is 0xFFFF and an absent slot
0xFF. The bytes of an absent identity or recipe, which the laws rule out, are the model's choice (assumption 14). That
the members' count is the members-served field and that the flags stand last are the model's deductions (assumption 10),
and so are the one byte of each member count (assumption 7) and the slot byte of members that hold no slot (assumption
26). -/
def Obligations.SummariesAnswer : Prop :=
  (∀ (tag slot first last : Byte) (s : State), EngineTakes (.wsum tag slot first last) s →
    (64 ≤ slot.toNat → Refuses (.wsum tag slot first last) tag .badField s) ∧
    (∀ i : Fin 64, slot.toNat = i.val → exec (.wsum tag slot first last) s = .next (
      let sl := s.slots[i]
      let r := s.recipeOfSlot i
      let upto := min last.toNat (first.toNat + 31)
      if ¬ (1 ≤ first.toNat ∧ first.toNat ≤ last.toNat ∧ last.toNat ≤ 63) then
        answered (.rsp tag 0x1E .badField []) s
      else if sl.state = .free ∨ sl.state = .clearing then answered (.rsp tag 0x1E .wrongState []) s
      else answered (.rsp tag 0x1E .ok (
        [sl.state.code] ++
        (match sl.identity with | some d => be1 d.lot.val ++ be1 d.wafer | none => [0xFF, 0]) ++
        (match sl.recipe with | some k => be1 k.val | none => [0xFF]) ++
        be2 sl.rows ++ be2 sl.cols ++ be3 sl.mapSize ++ be3 sl.tallies.tested ++ be3 sl.tallies.passed ++
        be2 sl.tallies.yield ++
        ([1, 2, 3, 4, 5, 6, 7, 8].flatMap fun h => be3 (rollup r sl.tallies h)) ++
        [first, BitVec.ofNat 8 upto] ++
        (((List.finRange 64).filter fun (b : Fin 64) => decide (first.toNat ≤ b.val ∧ b.val ≤ upto)).flatMap
          fun (b : Fin 64) => be4 (sl.tallies.counts[b] * 16384 + sl.tallies.share b)) ++
        binSetBytes sl.limits.bins ++ be2 sl.shadowed ++ [sl.disposition.code] ++ finalYieldBytes sl.finalYield ++
        be4 (sl.closeSeq.getD 0) ++ word16Bytes (sl.closeDigest.getD 0) ++
        flagBytes [(match sl.geometry with | some g => g.round | none => false), sl.tallies.tested == 0,
          sl.limits.yield == .breach, sl.limits.seen, sl.exported, sl.pinned, sl.forceHold])) s))) ∧
  (∀ (tag : Byte) (ident : LotId) (first last position : Byte) (s : State),
    EngineTakes (.lsum tag ident first last position) s →
    (¬ (1 ≤ first.toNat ∧ first.toNat ≤ last.toNat ∧ last.toNat ≤ 63) →
      Refuses (.lsum tag ident first last position) tag .badField s) ∧
    (1 ≤ first.toNat → first.toNat ≤ last.toNat → last.toNat ≤ 63 →
      (s.findLot ident = none → Refuses (.lsum tag ident first last position) tag .noLot s) ∧
      (∀ k : Fin 16, s.findLot ident = some k → exec (.lsum tag ident first last position) s = .next (
        let l := s.lots[k]
        let r := s.recipeOfLot k
        let upto := min last.toNat (first.toNat + 15)
        let served := (l.members.drop position.toNat).take 8
        if l.state ≠ .opened ∧ l.state ≠ .closed then answered (.rsp tag 0x15 .wrongState []) s
        else answered (.rsp tag 0x15 .ok (
          be1 k.val ++ [l.state.code] ++ (match l.recipe with | some n => be1 n.val | none => [0xFF]) ++
          be1 l.members.length ++ be3 l.totals.tested ++ be3 l.totals.passed ++ be3 l.carry.tested ++
          be2 l.totals.yield ++
          ([1, 2, 3, 4, 5, 6, 7, 8].flatMap fun h => be3 (rollup r l.totals h)) ++
          [first, BitVec.ofNat 8 upto] ++ [BitVec.ofNat 8 (upto + 1 - first.toNat)] ++
          (((List.finRange 64).filter fun (b : Fin 64) => decide (first.toNat ≤ b.val ∧ b.val ≤ upto)).flatMap
            fun (b : Fin 64) => be3 l.totals.counts[b] ++ be2 (l.totals.share b)) ++
          binSetBytes l.limits.bins ++ [l.disposition.code] ++ [position] ++ be1 served.length ++
          (served.flatMap fun m => be1 m.wafer ++
            [if m.retired = true then 3 else if m.opening = true then 1 else 2, slotByte m.slot] ++
            finalYieldBytes m.finalYield ++ [m.disposition.code]) ++
          [if position.toNat + 8 < l.members.length then BitVec.ofNat 8 (position.toNat + 8) else 0xFF] ++
          flagBytes [l.totals.tested == 0, l.limits.yield == .breach, l.limits.seen])) s)))) ∧
  (∀ (r : Recipe) (t : Tallies) (h : Nat), rollup r t h =
    (((List.finRange 64).filter fun (b : Fin 64) =>
      decide (b ≠ 0 ∧ r.entries[b].defined = true ∧ r.entries[b].hardBin = h)).map fun (b : Fin 64) => t.counts[b]).sum) ∧
  (∀ (s : State) (i : Fin 64), RecordsLaw s → MapLaw s → TallyLaw s → s.slots[i].inUse = true →
    (([1, 2, 3, 4, 5, 6, 7, 8].map fun h => rollup (s.recipeOfSlot i) s.slots[i].tallies h).sum =
      s.slots[i].tallies.tested ∧
    s.slots[i].tallies.yield ≤ 10000 ∧ ∀ b : Fin 64, s.slots[i].tallies.share b ≤ 10000)) ∧
  (∀ (t : Tallies) (b : Fin 64), t.yield = (if t.tested = 0 then 0 else 10000 * t.passed / t.tested) ∧
    t.share b = (if t.tested = 0 then 0 else 10000 * t.counts[b] / t.tested)) ∧
  (∀ n : Nat, be1 n = [BitVec.ofNat 8 n] ∧ be2 n = [BitVec.ofNat 8 (n / 256), BitVec.ofNat 8 n] ∧
    be3 n = [BitVec.ofNat 8 (n / 65536), BitVec.ofNat 8 (n / 256), BitVec.ofNat 8 n] ∧
    be4 n = [BitVec.ofNat 8 (n / 16777216), BitVec.ofNat 8 (n / 65536), BitVec.ofNat 8 (n / 256), BitVec.ofNat 8 n] ∧
    finalYieldBytes (some n) = [BitVec.ofNat 8 (n / 256), BitVec.ofNat 8 n]) ∧
  finalYieldBytes none = [0xFF, 0xFF] ∧
  (∀ i : Fin 64, slotByte (some i) = BitVec.ofNat 8 i.val) ∧ slotByte none = 0xFF

/-! ### Lots -/

/-- OPLT: the checks in order, and the lowest-numbered FREE entry set to an OPEN lot with nothing in it. -/
def Obligations.OpenLotTakesTheLowestFreeEntry : Prop :=
  ∀ (tag : Byte) (ident : LotId) (recipe : Byte) (s : State), EngineTakes (.oplt tag ident recipe) s →
    (8 ≤ recipe.toNat → Refuses (.oplt tag ident recipe) tag .badField s) ∧
    (∀ r : Fin 8, recipe.toNat = r.val →
      ((∃ b ∈ ident, b.toNat < 0x20 ∨ 0x7E < b.toNat) → Refuses (.oplt tag ident recipe) tag .badField s) ∧
      ((∀ b ∈ ident, 0x20 ≤ b.toNat ∧ b.toNat ≤ 0x7E) →
        ((∃ k : Fin 16, s.lots[k].state ≠ .free ∧ s.lots[k].ident = some ident) →
          Refuses (.oplt tag ident recipe) tag .duplicate s) ∧
        ((∀ k : Fin 16, s.lots[k].state ≠ .free → s.lots[k].ident ≠ some ident) →
          ((∀ k : Fin 16, s.lots[k].state ≠ .free) → Refuses (.oplt tag ident recipe) tag .lotTableFull s) ∧
          (∀ k : Fin 16, s.lots[k].state = .free → (∀ j : Fin 16, j < k → s.lots[j].state ≠ .free) →
            exec (.oplt tag ident recipe) s = .next (
              if s.recipes[r].state = .valid then
                answered (.rsp tag 0x12 .ok (be1 k.val)) { s with lots := s.lots.set k {
                  state := .opened, ident := some ident, recipe := some r, members := []
                  totals := Tallies.zero, carry := Tallies.zero, limits := LimitStates.clear
                  disposition := .none, retirement := none } }
              else answered (.rsp tag 0x12 .badRecipe []) s)))))

/-- CLLT: refused while a member is opening or holds a slot in OPEN or CLOSING; else the lot is evaluated, closes, and
takes its disposition from its breach-seen mark and its members. -/
def Obligations.CloseLotSetsTheDisposition : Prop :=
  ∀ (tag : Byte) (ident : LotId) (s : State), EngineTakes (.cllt tag ident) s →
    (s.findLot ident = none → Refuses (.cllt tag ident) tag .noLot s) ∧
    (∀ k : Fin 16, s.findLot ident = some k → exec (.cllt tag ident) s = .next (
      let l := s.lots[k]
      let e := s.evaluateLot k
      let limits := evaluate (s.recipeOfLot k) (s.recipeOfLot k).scalars.lotFloor l.totals l.limits
      let verdict := if limits.seen = true ∨ ∃ m ∈ l.members, m.disposition = .hold then Disposition.hold else .accept
      if l.state ≠ .opened then answered (.rsp tag 0x13 .wrongState []) s
      else if ∃ m ∈ l.members, m.opening = true ∨
          ∃ i : Fin 64, m.slot = some i ∧ (s.slots[i].state = .opened ∨ s.slots[i].state = .closing) then
        answered (.rsp tag 0x13 .membersActive []) s
      else answered (.rsp tag 0x13 .ok ([verdict.code] ++ be3 l.totals.tested ++ be3 l.totals.passed ++
          be2 l.totals.yield ++ flagBytes [l.totals.tested == 0]))
        ((s.setLot k { l with state := .closed, limits := limits, disposition := verdict }).offerAll 1 e.2)))

/-- RTLT on a CLOSED lot with no held member: every member slot is retired in ascending number and the entry becomes
RETIRING with those slots and the command's tag, or FREE when there is none. That the number of slots retired takes one
byte is the model's deduction (assumption 7). -/
def Obligations.RetireLotRetiresItsMembers : Prop :=
  ∀ (tag : Byte) (ident : LotId) (s : State), EngineTakes (.rtlt tag ident) s →
    (s.findLot ident = none → Refuses (.rtlt tag ident) tag .noLot s) ∧
    (∀ k : Fin 16, s.findLot ident = some k → ∃ slots : List (Fin 64), slots.Pairwise (· < ·) ∧
      (∀ i : Fin 64, i ∈ slots ↔ ∃ m ∈ s.lots[k].members, m.slot = some i) ∧
      exec (.rtlt tag ident) s = .next (
        if s.lots[k].state ≠ .closed then answered (.rsp tag 0x14 .wrongState []) s
        else if ∃ i ∈ slots, s.slots[i].state = .exporting ∨ s.slots[i].busy ≠ none then
          answered (.rsp tag 0x14 .busy []) s
        else if slots = [] then answered (.rsp tag 0x14 .ok [0]) { s with lots := s.lots.set k Lot.free }
        else
          let t := slots.foldl State.retire s
          answered (.acc tag 0x14 (be1 slots.length))
            { t with lots := t.lots.set k { t.lots[k] with state := .retiring, retirement := some ⟨slots, tag⟩ } }))

/-- RLHD in both forms: a CLOSED wafer or a CLOSED lot on HOLD becomes RELEASED, the wafer's member entry with it, and
nothing else changes; any other target is refused. That an RLHD whose kind byte is neither WAFER nor LOT stands in the row
of the wafer form, which refuses it BAD_FIELD, is the model's choice of row (assumption 11). -/
def Obligations.ReleaseHold : Prop :=
  (∀ (tag kind slot : Byte) (ident : LotId) (s : State), EngineTakes (.rlhdWafer tag kind slot ident) s →
    (kind.toNat ≠ 1 ∨ 64 ≤ slot.toNat → Refuses (.rlhdWafer tag kind slot ident) tag .badField s) ∧
    (∀ i : Fin 64, kind.toNat = 1 → slot.toNat = i.val → exec (.rlhdWafer tag kind slot ident) s = .next (
      if s.slots[i].state = .closed ∧ s.slots[i].disposition = .hold then
        answered (.rsp tag 0x2D .ok []) ((s.setSlot i { s.slots[i] with disposition := .released }).setMember
          s.slots[i].identity fun m => { m with disposition := .released })
      else answered (.rsp tag 0x2D .wrongState []) s))) ∧
  (∀ (tag slot : Byte) (ident : LotId) (s : State), EngineTakes (.rlhdLot tag slot ident) s →
    (s.findLot ident = none → Refuses (.rlhdLot tag slot ident) tag .noLot s) ∧
    (∀ k : Fin 16, s.findLot ident = some k → exec (.rlhdLot tag slot ident) s = .next (
      if s.lots[k].state = .closed ∧ s.lots[k].disposition = .hold then
        answered (.rsp tag 0x2D .ok []) (s.setLot k { s.lots[k] with disposition := .released })
      else answered (.rsp tag 0x2D .wrongState []) s))) ∧
  (∀ (s : State) (ident : LotId) (k : Fin 16), s.findLot ident = some k →
    s.lots[k].state ≠ .free ∧ s.lots[k].ident = some ident) ∧
  (∀ (s : State) (ident : LotId), s.findLot ident = none ↔
    ∀ k : Fin 16, s.lots[k].state ≠ .free → s.lots[k].ident ≠ some ident) ∧
  (∀ (s : State) (d : Identity) (f : Member → Member), s.setMember (some d) f =
    { s with lots := s.lots.set d.lot { s.lots[d.lot] with
      members := s.lots[d.lot].members.map fun m => if m.wafer = d.wafer then f m else m } })

/-! ### The Map Store -/

/-- OPWF: the checks in order, then the lowest-numbered FREE slot opens at once, or the open attaches to the first
CLEARING slot of the Clear Unit's list with no pending open, or a reclaim candidate is retired and takes it. -/
def Obligations.OpenWaferFindsItsSlot : Prop :=
  ∀ (tag : Byte) (ident : LotId) (wafer : Byte) (rows cols : Word16) (round hold : Byte) (s : State),
    EngineTakes (.opwf tag ident wafer rows cols round hold) s →
    (s.findLot ident = none → Refuses (.opwf tag ident wafer rows cols round hold) tag .noLot s) ∧
    (∀ k : Fin 16, s.findLot ident = some k → exec (.opwf tag ident wafer rows cols round hold) s = .next (
      let l := s.lots[k]
      let o : PendingOpen := ⟨k, wafer.toNat, rows.toNat, cols.toNat, round != 0, hold != 0, tag⟩
      if l.state ≠ .opened then answered (.rsp tag 0x16 .lotClosed []) s
      else if ∃ m ∈ l.members, m.wafer = wafer.toNat then answered (.rsp tag 0x16 .duplicate []) s
      else if 50 ≤ l.members.length then answered (.rsp tag 0x16 .lotFull []) s
      else if wafer.toNat = 0 ∨ 50 < wafer.toNat ∨ rows.toNat = 0 ∨ 256 < rows.toNat ∨ cols.toNat = 0 ∨
          256 < cols.toNat then answered (.rsp tag 0x16 .badField []) s
      else match s.openPlace with
        | .free i => answered (.rsp tag 0x16 .ok (be1 i.val)) { s with
            slots := s.slots.set i {
              state := .opened, identity := some ⟨k, wafer.toNat⟩, recipe := l.recipe
              geometry := some ⟨rows.toNat, cols.toNat, round != 0⟩
              mapSize := rows.toNat * cols.toNat -
                (openExclusions ⟨rows.toNat, cols.toNat, round != 0⟩).length
              tallies := Tallies.zero, shadowed := 0, disposition := .none, closeDigest := none
              finalYield := none, closeSeq := none, exported := false, forceHold := hold != 0, pinned := false
              pendingOpen := none, busy := none, limits := LimitStates.clear
              cells := Memory.initial ⟨rows.toNat, cols.toNat, round != 0⟩ }
            directory := s.directory ++ [⟨k, wafer.toNat, i⟩]
            lots := s.lots.set k { l with
              members := l.members ++ [⟨wafer.toNat, some i, false, false, none, .none⟩] } }
        | .clearing i => answered (.acc tag 0x16 (be1 i.val)) { s with
            slots := s.slots.set i { s.slots[i] with
              pendingOpen := some o, identity := some ⟨k, wafer.toNat⟩ }
            directory := s.directory ++ [⟨k, wafer.toNat, i⟩]
            lots := s.lots.set k { l with
              members := l.members ++ [⟨wafer.toNat, none, false, true, none, .none⟩] } }
        | .reclaim i =>
          let t := s.retire i
          answered (.acc tag 0x16 (be1 i.val)) { t with
            slots := t.slots.set i { t.slots[i] with
              pendingOpen := some o, identity := some ⟨k, wafer.toNat⟩ }
            directory := t.directory ++ [⟨k, wafer.toNat, i⟩]
            lots := t.lots.set k { t.lots[k] with
              members := t.lots[k].members ++ [⟨wafer.toNat, none, false, true, none, .none⟩] } }
        | .noSlot => answered (.rsp tag 0x16 .noSlot []) s))

/-- Where an open goes: the three steps, each only when those before find nothing, and the reclaim candidate with the
smallest close sequence number, the lowest-numbered among equals. Every candidate has a close sequence number under
Safety.CloseLaw; that an absent one would count as 0 is the model's choice (assumption 14). -/
def Obligations.OpenPlaceTakesTheFirstStep : Prop :=
  ∀ s : State,
    (let candidate : Fin 64 → Prop := fun i => s.slots[i].state = .closed ∧ s.slots[i].exported = true ∧
      s.slots[i].pinned = false ∧ s.slots[i].busy = none
    (∀ i : Fin 64, s.openPlace = .free i ↔
      s.slots[i].state = .free ∧ ∀ j : Fin 64, j < i → s.slots[j].state ≠ .free) ∧
    (∀ i : Fin 64, s.openPlace = .clearing i ↔ (∀ j : Fin 64, s.slots[j].state ≠ .free) ∧
      ∃ before after : List (Fin 64), s.clearList = before ++ i :: after ∧ s.slots[i].pendingOpen = none ∧
        ∀ j ∈ before, s.slots[j].pendingOpen ≠ none) ∧
    (∀ i : Fin 64, s.openPlace = .reclaim i ↔ (∀ j : Fin 64, s.slots[j].state ≠ .free) ∧
      (∀ j ∈ s.clearList, s.slots[j].pendingOpen ≠ none) ∧ candidate i ∧
      ∀ j : Fin 64, candidate j → s.slots[i].closeSeq.getD 0 < s.slots[j].closeSeq.getD 0 ∨
        (s.slots[i].closeSeq.getD 0 = s.slots[j].closeSeq.getD 0 ∧ i ≤ j)) ∧
    (s.openPlace = .noSlot ↔ (∀ j : Fin 64, s.slots[j].state ≠ .free) ∧
      (∀ j ∈ s.clearList, s.slots[j].pendingOpen ≠ none) ∧ ∀ j : Fin 64, ¬ candidate j))

/-- R28: initialization of a round map excludes exactly the cells outside the ellipse inscribed in the grid, on the exact
integers, whose terms stay below 2^34, and keeps a cell on the boundary; a map that is not round loses none and has
M = rows × cols; a map of one row or one column loses none. -/
def Obligations.RoundMapsExcludeOutsideTheEllipse : Prop :=
  (∀ (rows cols x y : Nat) (round : Bool), x < cols → y < rows →
    (Memory.initial ⟨rows, cols, round⟩).read (y * cols + x) =
      if round = true ∧ (rows : Int) ^ 2 * (cols : Int) ^ 2 <
          (2 * (x : Int) + 1 - cols) ^ 2 * (rows : Int) ^ 2 + (2 * (y : Int) + 1 - rows) ^ 2 * (cols : Int) ^ 2
      then ⟨.excluded, 0, 0, none⟩ else ⟨.untested, 0, 0, none⟩) ∧
  (∀ (g : Geometry) (k : Nat), g.rows * g.cols ≤ k → (Memory.initial g).read k = ⟨.untested, 0, 0, none⟩) ∧
  (∀ (n : Nat) (round : Bool), 1 ≤ n → Memory.initial ⟨1, n, round⟩ = [] ∧ Memory.initial ⟨n, 1, round⟩ = []) ∧
  (∀ (rows cols x y : Nat), rows ≤ 256 → cols ≤ 256 → x < cols → y < rows →
    (2 * (x : Int) + 1 - cols) ^ 2 * (rows : Int) ^ 2 + (2 * (y : Int) + 1 - rows) ^ 2 * (cols : Int) ^ 2 < 2 ^ 34 ∧
    (rows : Int) ^ 2 * (cols : Int) ^ 2 < 2 ^ 34) ∧
  (∀ (s : State) (i : Fin 64) (o : PendingOpen), o.round = false →
    (s.initSlot i o).slots[i].mapSize = o.rows * o.cols ∧
    (s.initSlot i o).slots[i].cells = Memory.initial ⟨o.rows, o.cols, false⟩)

/-- CLEARING_END: the head slot leaves the list and opens for its pending open, with the member entry and the DON, or
becomes FREE; it leaves the retirement set that holds it, and an emptied set frees the lot entry with its DON, handed
second. -/
def Obligations.ClearingEndOpensOrFrees : Prop :=
  (∀ (i : Fin 64) (rest : List (Fin 64)) (s : State), s.resetPin = false → s.clearList = i :: rest →
    ∃ (t u : State) (first second : List Done),
      exec .clearingEnd s = .next { u with completions := s.completions ++ first ++ second } ∧
      (s.slots[i].pendingOpen = none → first = [] ∧
        t = { s with clearList := rest, slots := s.slots.set i { s.slots[i] with state := .free, cells := [] } }) ∧
      (∀ o : PendingOpen, s.slots[i].pendingOpen = some o → first = [⟨o.tag, 0x16, .ok, be1 i.val⟩] ∧
        t = { s with
          clearList := rest
          slots := s.slots.set i {
            state := .opened, identity := some ⟨o.lot, o.wafer⟩, recipe := s.lots[o.lot].recipe
            geometry := some ⟨o.rows, o.cols, o.round⟩
            mapSize := o.rows * o.cols - (openExclusions ⟨o.rows, o.cols, o.round⟩).length
            tallies := Tallies.zero, shadowed := 0, disposition := .none, closeDigest := none, finalYield := none
            closeSeq := none, exported := false, forceHold := o.forceHold, pinned := false, pendingOpen := none
            busy := none, limits := LimitStates.clear, cells := Memory.initial ⟨o.rows, o.cols, o.round⟩ }
          lots := s.lots.set o.lot { s.lots[o.lot] with members := s.lots[o.lot].members.map fun m =>
            if m.wafer = o.wafer then { m with slot := some i, opening := false } else m } }) ∧
      ((∀ k : Fin 16, s.lots[k].state = .retiring → ∀ r, s.lots[k].retirement = some r → i ∉ r.slots) →
        u = t ∧ second = []) ∧
      (∀ (k : Fin 16) (r : Retirement), s.lots[k].state = .retiring → s.lots[k].retirement = some r → i ∈ r.slots →
        (∀ (j : Fin 16) (q : Retirement), j < k → s.lots[j].state = .retiring → s.lots[j].retirement = some q →
          i ∉ q.slots) →
        (let left := r.slots.filter fun j => j ≠ i
        if left = [] then u = { t with lots := t.lots.set k Lot.free } ∧ second = [⟨r.tag, 0x14, .ok, be1 k.val⟩]
        else u = { t with lots := t.lots.set k { t.lots[k] with retirement := some ⟨left, r.tag⟩ } } ∧ second = [])))
  ∧ (∀ s : State, s.clearList = [] → exec .clearingEnd s = .next s)

/-- RTWF: the checks in order, and the retirement: the tallies folded into the lot's carry, the directory entry removed,
the member entry marked retired, and the slot emptied into CLEARING at the tail of the Clear Unit's list with its pin
released. -/
def Obligations.RetireWafer : Prop :=
  (∀ (tag slot : Byte) (s : State), EngineTakes (.rtwf tag slot) s →
    (64 ≤ slot.toNat → Refuses (.rtwf tag slot) tag .badField s) ∧
    (∀ i : Fin 64, slot.toNat = i.val → exec (.rtwf tag slot) s = .next (
      if s.slots[i].state = .exporting then answered (.rsp tag 0x19 .busy []) s
      else if s.slots[i].state ≠ .closed then answered (.rsp tag 0x19 .wrongState []) s
      else if s.slots[i].busy ≠ none then answered (.rsp tag 0x19 .busy []) s
      else answered (.rsp tag 0x19 .ok []) (s.retire i)))) ∧
  (∀ (s : State) (i : Fin 64) (d : Identity), s.slots[i].identity = some d → s.retire i = { s with
    lots := s.lots.set d.lot { s.lots[d.lot] with
      carry := {
        tested := s.lots[d.lot].carry.tested + s.slots[i].tallies.tested
        passed := s.lots[d.lot].carry.passed + s.slots[i].tallies.passed
        counts := Vector.ofFn fun b => s.lots[d.lot].carry.counts[b] + s.slots[i].tallies.counts[b] }
      members := s.lots[d.lot].members.map fun m =>
        if m.wafer = d.wafer then { m with slot := none, retired := true } else m }
    directory := s.directory.filter fun e => e.slot ≠ i
    slots := s.slots.set i {
      state := .clearing, identity := none, recipe := none, geometry := none, mapSize := 0, tallies := Tallies.zero
      shadowed := 0, disposition := .none, closeDigest := none, finalYield := none, closeSeq := none
      exported := false, forceHold := false, pinned := false, pendingOpen := none, busy := none
      limits := LimitStates.clear, cells := s.slots[i].cells }
    pinCount := s.pinCount - (if s.slots[i].pinned = true then 1 else 0)
    clearList := s.clearList ++ [i] })

/-- PINS and UPIN: the checks in order, and the mark and the pin count together. -/
def Obligations.PinAndUnpinSlot : Prop :=
  (∀ (tag slot : Byte) (s : State), EngineTakes (.pins tag slot) s →
    (64 ≤ slot.toNat → Refuses (.pins tag slot) tag .badField s) ∧
    (∀ i : Fin 64, slot.toNat = i.val → exec (.pins tag slot) s = .next (
      if s.slots[i].state = .free ∨ s.slots[i].state = .clearing then answered (.rsp tag 0x1A .notInUse []) s
      else if s.slots[i].pinned = true then answered (.rsp tag 0x1A .ok []) s
      else if 16 ≤ s.pinCount then answered (.rsp tag 0x1A .pinFull []) s
      else answered (.rsp tag 0x1A .ok []) { s with
        slots := s.slots.set i { s.slots[i] with pinned := true }, pinCount := s.pinCount + 1 }))) ∧
  (∀ (tag slot : Byte) (s : State), EngineTakes (.upin tag slot) s →
    (64 ≤ slot.toNat → Refuses (.upin tag slot) tag .badField s) ∧
    (∀ i : Fin 64, slot.toNat = i.val → exec (.upin tag slot) s = .next (
      if s.slots[i].state = .free ∨ s.slots[i].state = .clearing then answered (.rsp tag 0x1B .notInUse []) s
      else if s.slots[i].pinned = false then answered (.rsp tag 0x1B .ok []) s
      else answered (.rsp tag 0x1B .ok []) { s with
        slots := s.slots.set i { s.slots[i] with pinned := false }, pinCount := s.pinCount - 1 })))

/-! ### Closing, retest and export -/

/-- CLWF unbinds the slot's alias entries, moves it to CLOSING and queues a SWEEP job over the whole map; the end of that
job fixes digest, yield, disposition and close sequence number, closes the slot and hands the DON. That the number of
jobs ahead takes one byte is the model's deduction (assumption 7). -/
def Obligations.CloseWaferAndItsSweep : Prop :=
  (∀ (tag slot : Byte) (s : State), EngineTakes (.clwf tag slot) s →
    (64 ≤ slot.toNat → Refuses (.clwf tag slot) tag .badField s) ∧
    (∀ i : Fin 64, slot.toNat = i.val → exec (.clwf tag slot) s = .next (
      let sl := s.slots[i]
      if sl.state ≠ .opened then answered (.rsp tag 0x17 .wrongState []) s
      else if sl.busy ≠ none ∨ 8 ≤ s.jobs.length then answered (.rsp tag 0x17 .busy []) s
      else answered (.acc tag 0x17 (be1 i.val ++ be1 s.jobs.length)) (({ s with
        testers := Vector.ofFn fun n => { s.testers[n] with bindings := Vector.ofFn fun a =>
          if s.testers[n].bindings[a].slot = (some i) then ⟨none, none, 0, false⟩ else s.testers[n].bindings[a] }
        slots := s.slots.set i { sl with state := .closing, busy := some .sweep }
        jobs := s.jobs ++ [⟨.sweep, i, tag, 0, 0, 0, sl.rows * sl.cols, 0xFFFF⟩] } : State).offerAll 1
        ((List.finRange 12).flatMap fun (n : Fin 12) => (List.finRange 4).flatMap fun (a : Fin 4) =>
          if s.testers[n].bindings[a].slot = some i ∧ s.testers[n].bindings[a].alarm = true then
            [.runAlarm .clear n (a.val + 1) i 0] else []))))) ∧
  (∀ (j : Job) (rest : List Job) (s : State), s.resetPin = false → s.jobs = j :: rest → j.kind = .sweep →
    exec .sweepEnd s = .next (
      let sl := s.slots[j.slot]
      let r := s.recipeOfSlot j.slot
      let limits := evaluate r r.scalars.waferFloor sl.tallies sl.limits
      let verdict := if limits.seen = true then Disposition.hold else .accept
      let figure := if sl.tallies.tested = 0 then 0 else 10000 * sl.tallies.passed / sl.tallies.tested
      let seq := min 4294967295 (s.closeSeq + 1)
      let digest := digestCellsFrom j.register sl.cells j.next j.stop
      let t := ({ s with
        slots := s.slots.set j.slot { sl with
          limits := limits, disposition := verdict, finalYield := some figure, closeSeq := some seq
          closeDigest := some digest, state := .closed, busy := none }
        closeSeq := seq, jobs := rest } : State).setMember sl.identity fun m =>
          { m with finalYield := some figure, disposition := verdict }
      let u := t.offerAll 0 (s.evaluateSlot j.slot).2
      { u with completions := s.completions ++ [⟨j.tag, 0x17, .ok, be1 j.slot.val ++ be2 figure ++ [verdict.code] ++
        word16Bytes digest ++ be4 seq ++ flagBytes [sl.tallies.tested == 0]⟩] })) ∧
  (∀ s : State, (∀ j rest, s.jobs = j :: rest → j.kind ≠ .sweep) → exec .sweepEnd s = .next s)

/-- RPWF: the checks in order, and the slot opened again with its close results gone, its forced cells released unless
the force-hold mark says otherwise, its limits evaluated from the states they had, and its breach-seen mark yes exactly
when a breach is still active. -/
def Obligations.ReopenWafer : Prop :=
  (∀ (tag slot : Byte) (s : State), EngineTakes (.rpwf tag slot) s →
    (64 ≤ slot.toNat → Refuses (.rpwf tag slot) tag .badField s) ∧
    (∀ i : Fin 64, slot.toNat = i.val →
      (s.slots[i].state = .exporting → Refuses (.rpwf tag slot) tag .busy s) ∧
      (s.slots[i].state ≠ .exporting → s.slots[i].state ≠ .closed → Refuses (.rpwf tag slot) tag .wrongState s) ∧
      (s.slots[i].state = .closed → s.slots[i].busy ≠ none → Refuses (.rpwf tag slot) tag .busy s) ∧
      (∀ d : Identity, s.slots[i].state = .closed → s.slots[i].busy = none → s.slots[i].identity = some d →
        (s.lots[d.lot].state ≠ .opened → Refuses (.rpwf tag slot) tag .lotClosed s) ∧
        (s.lots[d.lot].state = .opened →
          ∃ (sl : Slot) (released : Nat),
            (let r := s.recipeOfSlot i
            let alerts := (limitChanges r r.scalars.waferFloor s.slots[i].tallies
              { s.slots[i].limits with seen := false }).map (waferAlert i (some d))
            exec (.rpwf tag slot) s = .next (answered (.rsp tag 0x18 .ok (be3 released ++ flagBytes [sl.limits.seen]))
              (((s.setSlot i sl).setMember (some d) fun m =>
                { m with finalYield := none, disposition := .none }).offerAll 1 alerts))) ∧
            sl = { s.slots[i] with
              state := .opened, disposition := .none, closeDigest := none, finalYield := none, closeSeq := none
              exported := false, cells := sl.cells, limits := sl.limits } ∧
            (∀ k : Nat, sl.cell k =
              if s.slots[i].forceHold = false ∧ k < s.slots[i].size ∧ (s.slots[i].cell k).status = .forced then
                { s.slots[i].cell k with status := .tested } else s.slots[i].cell k) ∧
            (s.slots[i].forceHold = true → released = 0) ∧
            (s.slots[i].forceHold = false → s.slots[i].cells.wf = true →
              released = cellCount s.slots[i] fun c => c.status == .forced) ∧
            (let r := s.recipeOfSlot i
            let e := evaluate r r.scalars.waferFloor s.slots[i].tallies { s.slots[i].limits with seen := false }
            sl.limits.bins = e.bins ∧ sl.limits.yield = e.yield ∧
            (sl.limits.seen = true ↔ e.seen = true ∨ e.active = true))))))

/-- DGST and the end of its job: the checks in order, the job queued, and at its end the digest of the cells from the
index it has reached to the end of its range, with the marker removed. That the number of jobs ahead takes one byte is the
model's deduction (assumption 7). -/
def Obligations.DigestJobs : Prop :=
  (∀ (tag slot : Byte) (start count : Word16) (s : State), EngineTakes (.dgst tag slot start count) s →
    (64 ≤ slot.toNat → Refuses (.dgst tag slot start count) tag .badField s) ∧
    (∀ i : Fin 64, slot.toNat = i.val → exec (.dgst tag slot start count) s = .next (
      let sl := s.slots[i]
      let stop := start.toNat + (if count.toNat = 0 then 65536 else count.toNat)
      if sl.state ≠ .opened ∧ sl.state ≠ .closed ∧ sl.state ≠ .exporting then
        answered (.rsp tag 0x28 .wrongState []) s
      else if sl.busy ≠ none ∨ 8 ≤ s.jobs.length then answered (.rsp tag 0x28 .busy []) s
      else if sl.rows * sl.cols < stop then answered (.rsp tag 0x28 .range []) s
      else answered (.acc tag 0x28 (be1 i.val ++ be1 s.jobs.length)) { s with
        slots := s.slots.set i { sl with busy := some .digest }
        jobs := s.jobs ++ [⟨.digest, i, tag, start, count, start.toNat, stop, 0xFFFF⟩] }))) ∧
  (∀ (j : Job) (rest : List Job) (s : State), s.resetPin = false → s.jobs = j :: rest → j.kind = .digest →
    exec .digestEnd s = .next { s with
      slots := s.slots.set j.slot { s.slots[j.slot] with busy := none }
      jobs := rest
      completions := s.completions ++ [⟨j.tag, 0x28, .ok, be1 j.slot.val ++ word16Bytes j.start ++
        word16Bytes j.count ++ word16Bytes (digestCellsFrom j.register s.slots[j.slot].cells j.next j.stop)⟩] }) ∧
  (∀ s : State, (∀ j rest, s.jobs = j :: rest → j.kind ≠ .digest) → exec .digestEnd s = .next s)

/-- XPRT, the chunks, XSTP and the map end: an export takes a CLOSED slot, places its chunks in order while CL has four
free entries, and ends COMPLETE with the digest of the map or STOPPED with that of the chunks placed. -/
def Obligations.ExportPath : Prop :=
  (∀ (tag slot : Byte) (s : State), EngineTakes (.xprt tag slot) s →
    (64 ≤ slot.toNat → Refuses (.xprt tag slot) tag .badField s) ∧
    (∀ i : Fin 64, slot.toNat = i.val → exec (.xprt tag slot) s = .next (
      let sl := s.slots[i]
      let chunks := (sl.rows * sl.cols + 63) / 64
      if s.transfer ≠ none then answered (.rsp tag 0x1C .busy []) s
      else if sl.state ≠ .closed then answered (.rsp tag 0x1C .wrongState []) s
      else if sl.busy ≠ none then answered (.rsp tag 0x1C .busy []) s
      else answered (.acc tag 0x1C (be1 i.val ++ be2 chunks)) { s with
        slots := s.slots.set i { sl with state := .exporting, busy := some .transfer }
        transfer := some ⟨i, tag, chunks, 0, 0xFFFF, false, .chunks⟩ }))) ∧
  (∀ (x : Transfer) (s : State), s.resetPin = false → s.transfer = some x → x.phase = .chunks → exec .mch s = .next (
    let size := s.slots[x.slot].rows * s.slots[x.slot].cols
    let cells := (List.range' (64 * x.nextChunk) (min 64 (size - 64 * x.nextChunk))).map s.slots[x.slot].cell
    if s.links[cl].outbound.length ≤ 28 then
      { s.place cl (.mch x.slot x.nextChunk cells) with transfer := some { x with
        nextChunk := x.nextChunk + 1, register := crcFrom x.register (cells.flatMap Cell.encoding)
        phase := if x.chunks ≤ x.nextChunk + 1 ∨ x.stop = true then .ending else .chunks } }
    else s)) ∧
  (∀ (x : Transfer) (s : State), s.resetPin = false → s.transfer = some x → x.phase = .ending → exec .mnd s = .next (
    let sl := s.slots[x.slot]
    if s.links[cl].outbound.length ≤ 28 then
      { s.place cl (.mnd x.slot (if x.stop = true then .stopped else .complete) x.nextChunk x.register) with
        slots := s.slots.set x.slot { sl with state := .closed, busy := none, exported := !x.stop }
        transfer := none
        completions := s.completions ++ [⟨x.tag, 0x1C, if x.stop = true then .stopped else .ok,
          be1 x.slot.val ++ be2 x.nextChunk ++ word16Bytes x.register⟩] }
    else s)) ∧
  (∀ (tag : Byte) (s : State), EngineTakes (.xstp tag) s →
    (s.transfer = none → Refuses (.xstp tag) tag .notRunning s) ∧
    (∀ x : Transfer, s.transfer = some x → exec (.xstp tag) s = .next (
      answered (.rsp tag 0x24 .ok (be1 x.slot.val ++ be2 x.nextChunk))
        { s with transfer := some { x with stop := true, phase := .ending } }))) ∧
  (∀ s : State, (∀ x, s.transfer = some x → x.phase ≠ .chunks) → exec .mch s = .next s) ∧
  (∀ s : State, (∀ x, s.transfer = some x → x.phase ≠ .ending) → exec .mnd s = .next s)

/-! ### Bindings and site maps -/

/-- R45: BIND makes its checks in order and sets the whole entry, answers the slot bound before, and offers
RUN_ALARM CLEAR when the entry's alarm was set; nothing else is looked at or changed. -/
def Obligations.BindSetsTheEntry : Prop :=
  ∀ (tag link aliasNo slot : Byte) (s : State), EngineTakes (.bind tag link aliasNo slot) s →
    (12 ≤ link.toNat ∨ aliasNo.toNat = 0 ∨ 4 < aliasNo.toNat ∨ 64 ≤ slot.toNat →
      Refuses (.bind tag link aliasNo slot) tag .badField s) ∧
    (∀ (n : Fin 12) (a : Fin 4) (i : Fin 64), link.toNat = n.val → aliasNo.toNat = a.val + 1 → slot.toNat = i.val →
      exec (.bind tag link aliasNo slot) s = .next (
        let old := s.testers[n].bindings[a]
        if s.slots[i].state = .opened then
          answered (.rsp tag 0x29 .ok [match old.slot with | some j => BitVec.ofNat 8 j.val | none => 0xFF])
            (({ s with testers := s.testers.set n { s.testers[n] with
                bindings := s.testers[n].bindings.set a ⟨some i, none, 0, false⟩ } } : State).offerAll 1
              (match old.slot with
                | some j => if old.alarm = true then [.runAlarm .clear n (a.val + 1) j 0] else []
                | none => []))
        else answered (.rsp tag 0x29 .wrongState []) s))

/-- UBND unbinds the entry and RSMB clears its run state: the answers carry the entry as it stood before, and RUN_ALARM
CLEAR is offered when its alarm was set. That the run length of the RSMB answer takes one byte is the model's deduction
(assumption 7). -/
def Obligations.UnbindAndResetMonitor : Prop :=
  (∀ (tag link aliasNo : Byte) (s : State), EngineTakes (.ubnd tag link aliasNo) s →
    (12 ≤ link.toNat ∨ aliasNo.toNat = 0 ∨ 4 < aliasNo.toNat → Refuses (.ubnd tag link aliasNo) tag .badField s) ∧
    (∀ (n : Fin 12) (a : Fin 4), link.toNat = n.val → aliasNo.toNat = a.val + 1 →
      exec (.ubnd tag link aliasNo) s = .next (
        let old := s.testers[n].bindings[a]
        answered (.rsp tag 0x2A .ok [slotByte old.slot])
          (({ s with testers := s.testers.set n { s.testers[n] with
              bindings := s.testers[n].bindings.set a ⟨none, none, 0, false⟩ } } : State).offerAll 1
            (match old.slot with
              | some j => if old.alarm = true then [.runAlarm .clear n (a.val + 1) j 0] else []
              | none => []))))) ∧
  (∀ (tag link aliasNo : Byte) (s : State), EngineTakes (.rsmb tag link aliasNo) s →
    (12 ≤ link.toNat ∨ aliasNo.toNat = 0 ∨ 4 < aliasNo.toNat → Refuses (.rsmb tag link aliasNo) tag .badField s) ∧
    (∀ (n : Fin 12) (a : Fin 4), link.toNat = n.val → aliasNo.toNat = a.val + 1 →
      exec (.rsmb tag link aliasNo) s = .next (
        let old := s.testers[n].bindings[a]
        let fields : List Byte := [slotByte old.slot, (match old.runBin with
          | some b => BitVec.ofNat 8 b.val | none => 0), BitVec.ofNat 8 old.runLength] ++
          flagBytes [old.slot != none, old.alarm]
        match old.slot with
        | some j => answered (.rsp tag 0x2B .ok fields)
            (({ s with testers := s.testers.set n { s.testers[n] with
                bindings := s.testers[n].bindings.set a ⟨some j, none, 0, false⟩ } } : State).offerAll 1
              (if old.alarm = true then [.runAlarm .clear n (a.val + 1) j 0] else []))
        | none => answered (.rsp tag 0x2B .ok fields) s)))

/-- STMP checks the whole command before any entry is written, and writes the listed entries in order, the later listing
of a site standing, with every other entry, the alias entries and the other links as they were. That the number of
entries written takes one byte is the model's deduction (assumption 7). -/
def Obligations.SiteMapIsWrittenWhole : Prop :=
  ∀ (tag link count : Byte) (entries : List SiteWire) (s : State), EngineTakes (.stmp tag link count entries) s →
    (let bad := 12 ≤ link.toNat ∨ count.toNat = 0 ∨ 32 < count.toNat ∨
      ∃ e ∈ entries, 32 ≤ e.site.toNat ∨ e.dx.toInt < -15 ∨ 15 < e.dx.toInt ∨ e.dy.toInt < -15 ∨ 15 < e.dy.toInt
    (bad → Refuses (.stmp tag link count entries) tag .badField s) ∧
    (∀ n : Fin 12, ¬ bad → link.toNat = n.val → ∃ sites : Vector SiteEntry 32,
      exec (.stmp tag link count entries) s = .next (answered (.rsp tag 0x2C .ok [count])
        { s with testers := s.testers.set n { s.testers[n] with sites := sites } }) ∧
      (∀ k : Fin 32, (∀ e ∈ entries, e.site.toNat ≠ k.val) → sites[k] = s.testers[n].sites[k]) ∧
      (∀ (k : Fin 32) (before after : List SiteWire) (e : SiteWire), entries = before ++ e :: after →
        e.site.toNat = k.val → (∀ f ∈ after, f.site.toNat ≠ k.val) →
        sites[k] = ⟨e.enabled != 0, e.dx.toInt, e.dy.toInt⟩)))

/-! ### The laws that every step keeps -/

/-- The laws of links, records, lives, tallies, digests, maps, lists and close results hold at reset. -/
def Obligations.LawsHoldAtReset : Prop :=
  LinksLaw State.reset ∧ RecordsLaw State.reset ∧ LifeLaw State.reset ∧ TallyLaw State.reset ∧
    DigestLaw State.reset ∧ MapLaw State.reset ∧ ListsLaw State.reset ∧ CloseLaw State.reset

/-- Every step keeps the law of the links: queue limits, counters, bodies of 1 to 200 bytes, STOPPED links empty and
IDLE, CL RUNNING, PACED and at 4 Mbaud. -/
def Obligations.EveryStepKeepsTheLinks : Prop :=
  ∀ s t : State, LinksLaw s → step s = .next t → LinksLaw t

/-- Every step keeps the law of the records: recipe fields in range, no bin in an untested or excluded cell, canonical
cell records. And every step keeps the law of maps: the bin of a tested or forced cell is defined in its slot's recipe,
and no cell's attempts exceed that recipe's attempt limit. -/
def Obligations.EveryStepKeepsTheRecords : Prop :=
  (∀ s t : State, RecordsLaw s → step s = .next t → RecordsLaw t) ∧
  (∀ s t : State, LifeLaw s → RecordsLaw s → MapLaw s → step s = .next t → MapLaw t)

/-- Every step keeps the law of lives: the Clear Unit's list, identities and member entries, pins, bindings only to OPEN
slots, one job or export per busy slot. And every step keeps the law of lists: the directory holds every identity once,
at most 50 members, run lengths within the run limit, a breach-seen mark with every active breach, at most 80 completions
waiting or to come. -/
def Obligations.EveryStepKeepsTheLives : Prop :=
  (∀ s t : State, LifeLaw s → step s = .next t → LifeLaw t) ∧
  (∀ s t : State, LifeLaw s → ListsLaw s → step s = .next t → ListsLaw t)

/-- Every step keeps the law of tallies: a slot's counts are those of its cells, and a lot's totals are its carry plus
the sum over its member slots. -/
def Obligations.EveryStepKeepsTheTallies : Prop :=
  ∀ s t : State, LifeLaw s → RecordsLaw s → TallyLaw s → step s = .next t → TallyLaw t

/-- Every step keeps the law of digests: a closed map's digest is that of its cells, and an export has digested exactly
the chunks it has placed. And every step keeps the law of close results: a CLOSED or EXPORTING slot carries a close
sequence number from 1 up to the counter, the yield of its tallies as its final yield, and a disposition, and every other
slot carries none of them, no close digest and no exported mark. -/
def Obligations.EveryStepKeepsTheDigests : Prop :=
  (∀ s t : State, LifeLaw s → DigestLaw s → step s = .next t → DigestLaw t) ∧
  (∀ s t : State, LifeLaw s → CloseLaw s → step s = .next t → CloseLaw t)
end

