-- ==== Sys2Proof/Laws/State.lean ====
section
/-! SUPPORT. What each named update of the state does to each field: one lemma per field that the update leaves alone,
and, for the updates of one record, what is then read at every number. All are true by unfolding once, so that no later
proof unfolds a record update. -/

namespace Sys2Proof.Machine

variable (s : State)

/-! ### Reading a record after one is replaced -/

@[simp] theorem State.setSlot_get (i : Fin 64) (sl : Slot) (j : Nat) (h : j < 64) :
    (s.setSlot i sl).slots[j] = if i.val = j then sl else s.slots[j] := by
  simp [State.setSlot, Vector.getElem_set]

@[simp] theorem State.setLot_get (k : Fin 16) (l : Lot) (j : Nat) (h : j < 16) :
    (s.setLot k l).lots[j] = if k.val = j then l else s.lots[j] := by
  simp [State.setLot, Vector.getElem_set]

@[simp] theorem State.setLink_get (n : Fin 13) (l : Link) (j : Nat) (h : j < 13) :
    (s.setLink n l).links[j] = if n.val = j then l else s.links[j] := by
  simp [State.setLink, Vector.getElem_set]

@[simp] theorem State.setDrained_get (n : Fin 13) (l : Link) (j : Nat) (h : j < 13) :
    (s.setDrained n l).links[j] = if n.val = j then l.drained else s.links[j] := by
  simp [State.setDrained]

@[simp] theorem State.setTester_get (n : Fin 12) (r : Tester) (j : Nat) (h : j < 12) :
    (s.setTester n r).testers[j] = if n.val = j then r else s.testers[j] := by
  simp [State.setTester, Vector.getElem_set]

/-- The tester link's records after one alias entry is replaced. -/
@[simp] theorem State.setBinding_get (n : Fin 12) (a : Fin 4) (e : Binding) (j : Nat) (h : j < 12) :
    (s.setBinding n a e).testers[j] =
      if n.val = j then { s.testers[n] with bindings := s.testers[n].bindings.set a e } else s.testers[j] := by
  simp [State.setBinding]

/-- A placed message changes its own link's outbound queue and no other link (R177). -/
@[simp] theorem State.place_get (n : Fin 13) (m : Message) (j : Nat) (h : j < 13) :
    (s.place n m).links[j] = if n.val = j then s.links[n].push m else s.links[j] := by
  simp [State.place]

@[simp] theorem State.enterClearing_get (i : Fin 64) (j : Nat) (h : j < 64) :
    (s.enterClearing i).slots[j] = if i.val = j then Slot.empty .clearing s.slots[i].cells else s.slots[j] := by
  simp [State.enterClearing]

@[simp] theorem State.addMember_get (k : Fin 16) (m : Member) (j : Nat) (h : j < 16) :
    (s.addMember k m).lots[j] =
      if k.val = j then { s.lots[k] with members := s.lots[k].members ++ [m] } else s.lots[j] := by
  simp [State.addMember]

@[simp] theorem State.hand_completions (ds : List Done) : (s.hand ds).completions = s.completions ++ ds := rfl

@[simp] theorem State.enterDirectory_directory (k : Fin 16) (w : Nat) (i : Fin 64) :
    (s.enterDirectory k w i).directory = s.directory ++ [⟨k, w, i⟩] := rfl

@[simp] theorem State.takeFrame_pointer (n : Fin 12) : (s.takeFrame n).pointer = tl n + 1 := rfl

@[simp] theorem State.enterClearing_clearList (i : Fin 64) : (s.enterClearing i).clearList = s.clearList ++ [i] := rfl

@[simp] theorem State.enterClearing_pinCount (i : Fin 64) :
    (s.enterClearing i).pinCount = s.pinCount - s.slots[i].pinned.toNat := rfl

@[simp] theorem State.enterClearing_directory (i : Fin 64) :
    (s.enterClearing i).directory = s.directory.filter (fun e => e.slot != i) := rfl

/-! ### State.setSlot -/

@[simp] theorem State.setSlot_pending (i : Fin 64) (sl : Slot) : (s.setSlot i sl).pending = s.pending := rfl
@[simp] theorem State.setSlot_resetPin (i : Fin 64) (sl : Slot) : (s.setSlot i sl).resetPin = s.resetPin := rfl
@[simp] theorem State.setSlot_recipes (i : Fin 64) (sl : Slot) : (s.setSlot i sl).recipes = s.recipes := rfl
@[simp] theorem State.setSlot_staging (i : Fin 64) (sl : Slot) : (s.setSlot i sl).staging = s.staging := rfl
@[simp] theorem State.setSlot_lots (i : Fin 64) (sl : Slot) : (s.setSlot i sl).lots = s.lots := rfl
@[simp] theorem State.setSlot_clearList (i : Fin 64) (sl : Slot) : (s.setSlot i sl).clearList = s.clearList := rfl
@[simp] theorem State.setSlot_directory (i : Fin 64) (sl : Slot) : (s.setSlot i sl).directory = s.directory := rfl
@[simp] theorem State.setSlot_pinCount (i : Fin 64) (sl : Slot) : (s.setSlot i sl).pinCount = s.pinCount := rfl
@[simp] theorem State.setSlot_closeSeq (i : Fin 64) (sl : Slot) : (s.setSlot i sl).closeSeq = s.closeSeq := rfl
@[simp] theorem State.setSlot_testers (i : Fin 64) (sl : Slot) : (s.setSlot i sl).testers = s.testers := rfl
@[simp] theorem State.setSlot_pointer (i : Fin 64) (sl : Slot) : (s.setSlot i sl).pointer = s.pointer := rfl
@[simp] theorem State.setSlot_jobs (i : Fin 64) (sl : Slot) : (s.setSlot i sl).jobs = s.jobs := rfl
@[simp] theorem State.setSlot_transfer (i : Fin 64) (sl : Slot) : (s.setSlot i sl).transfer = s.transfer := rfl
@[simp] theorem State.setSlot_links (i : Fin 64) (sl : Slot) : (s.setSlot i sl).links = s.links := rfl
@[simp] theorem State.setSlot_current (i : Fin 64) (sl : Slot) : (s.setSlot i sl).current = s.current := rfl
@[simp] theorem State.setSlot_completions (i : Fin 64) (sl : Slot) : (s.setSlot i sl).completions = s.completions := rfl
@[simp] theorem State.setSlot_stopAll (i : Fin 64) (sl : Slot) : (s.setSlot i sl).stopAll = s.stopAll := rfl
@[simp] theorem State.setSlot_dropped (i : Fin 64) (sl : Slot) : (s.setSlot i sl).dropped = s.dropped := rfl
@[simp] theorem State.setSlot_freeIndex (i : Fin 64) (sl : Slot) : (s.setSlot i sl).freeIndex = s.freeIndex := rfl
@[simp] theorem State.setSlot_lastSent (i : Fin 64) (sl : Slot) : (s.setSlot i sl).lastSent = s.lastSent := rfl

/-! ### State.setLot -/

@[simp] theorem State.setLot_pending (k : Fin 16) (l : Lot) : (s.setLot k l).pending = s.pending := rfl
@[simp] theorem State.setLot_resetPin (k : Fin 16) (l : Lot) : (s.setLot k l).resetPin = s.resetPin := rfl
@[simp] theorem State.setLot_recipes (k : Fin 16) (l : Lot) : (s.setLot k l).recipes = s.recipes := rfl
@[simp] theorem State.setLot_staging (k : Fin 16) (l : Lot) : (s.setLot k l).staging = s.staging := rfl
@[simp] theorem State.setLot_slots (k : Fin 16) (l : Lot) : (s.setLot k l).slots = s.slots := rfl
@[simp] theorem State.setLot_clearList (k : Fin 16) (l : Lot) : (s.setLot k l).clearList = s.clearList := rfl
@[simp] theorem State.setLot_directory (k : Fin 16) (l : Lot) : (s.setLot k l).directory = s.directory := rfl
@[simp] theorem State.setLot_pinCount (k : Fin 16) (l : Lot) : (s.setLot k l).pinCount = s.pinCount := rfl
@[simp] theorem State.setLot_closeSeq (k : Fin 16) (l : Lot) : (s.setLot k l).closeSeq = s.closeSeq := rfl
@[simp] theorem State.setLot_testers (k : Fin 16) (l : Lot) : (s.setLot k l).testers = s.testers := rfl
@[simp] theorem State.setLot_pointer (k : Fin 16) (l : Lot) : (s.setLot k l).pointer = s.pointer := rfl
@[simp] theorem State.setLot_jobs (k : Fin 16) (l : Lot) : (s.setLot k l).jobs = s.jobs := rfl
@[simp] theorem State.setLot_transfer (k : Fin 16) (l : Lot) : (s.setLot k l).transfer = s.transfer := rfl
@[simp] theorem State.setLot_links (k : Fin 16) (l : Lot) : (s.setLot k l).links = s.links := rfl
@[simp] theorem State.setLot_current (k : Fin 16) (l : Lot) : (s.setLot k l).current = s.current := rfl
@[simp] theorem State.setLot_completions (k : Fin 16) (l : Lot) : (s.setLot k l).completions = s.completions := rfl
@[simp] theorem State.setLot_stopAll (k : Fin 16) (l : Lot) : (s.setLot k l).stopAll = s.stopAll := rfl
@[simp] theorem State.setLot_dropped (k : Fin 16) (l : Lot) : (s.setLot k l).dropped = s.dropped := rfl
@[simp] theorem State.setLot_freeIndex (k : Fin 16) (l : Lot) : (s.setLot k l).freeIndex = s.freeIndex := rfl
@[simp] theorem State.setLot_lastSent (k : Fin 16) (l : Lot) : (s.setLot k l).lastSent = s.lastSent := rfl

/-! ### State.setLink -/

@[simp] theorem State.setLink_pending (n : Fin 13) (l : Link) : (s.setLink n l).pending = s.pending := rfl
@[simp] theorem State.setLink_resetPin (n : Fin 13) (l : Link) : (s.setLink n l).resetPin = s.resetPin := rfl
@[simp] theorem State.setLink_recipes (n : Fin 13) (l : Link) : (s.setLink n l).recipes = s.recipes := rfl
@[simp] theorem State.setLink_staging (n : Fin 13) (l : Link) : (s.setLink n l).staging = s.staging := rfl
@[simp] theorem State.setLink_lots (n : Fin 13) (l : Link) : (s.setLink n l).lots = s.lots := rfl
@[simp] theorem State.setLink_slots (n : Fin 13) (l : Link) : (s.setLink n l).slots = s.slots := rfl
@[simp] theorem State.setLink_clearList (n : Fin 13) (l : Link) : (s.setLink n l).clearList = s.clearList := rfl
@[simp] theorem State.setLink_directory (n : Fin 13) (l : Link) : (s.setLink n l).directory = s.directory := rfl
@[simp] theorem State.setLink_pinCount (n : Fin 13) (l : Link) : (s.setLink n l).pinCount = s.pinCount := rfl
@[simp] theorem State.setLink_closeSeq (n : Fin 13) (l : Link) : (s.setLink n l).closeSeq = s.closeSeq := rfl
@[simp] theorem State.setLink_testers (n : Fin 13) (l : Link) : (s.setLink n l).testers = s.testers := rfl
@[simp] theorem State.setLink_pointer (n : Fin 13) (l : Link) : (s.setLink n l).pointer = s.pointer := rfl
@[simp] theorem State.setLink_jobs (n : Fin 13) (l : Link) : (s.setLink n l).jobs = s.jobs := rfl
@[simp] theorem State.setLink_transfer (n : Fin 13) (l : Link) : (s.setLink n l).transfer = s.transfer := rfl
@[simp] theorem State.setLink_current (n : Fin 13) (l : Link) : (s.setLink n l).current = s.current := rfl
@[simp] theorem State.setLink_completions (n : Fin 13) (l : Link) : (s.setLink n l).completions = s.completions := rfl
@[simp] theorem State.setLink_stopAll (n : Fin 13) (l : Link) : (s.setLink n l).stopAll = s.stopAll := rfl
@[simp] theorem State.setLink_dropped (n : Fin 13) (l : Link) : (s.setLink n l).dropped = s.dropped := rfl
@[simp] theorem State.setLink_freeIndex (n : Fin 13) (l : Link) : (s.setLink n l).freeIndex = s.freeIndex := rfl
@[simp] theorem State.setLink_lastSent (n : Fin 13) (l : Link) : (s.setLink n l).lastSent = s.lastSent := rfl

/-! ### State.setDrained -/

@[simp] theorem State.setDrained_pending (n : Fin 13) (l : Link) : (s.setDrained n l).pending = s.pending := rfl
@[simp] theorem State.setDrained_resetPin (n : Fin 13) (l : Link) : (s.setDrained n l).resetPin = s.resetPin := rfl
@[simp] theorem State.setDrained_recipes (n : Fin 13) (l : Link) : (s.setDrained n l).recipes = s.recipes := rfl
@[simp] theorem State.setDrained_staging (n : Fin 13) (l : Link) : (s.setDrained n l).staging = s.staging := rfl
@[simp] theorem State.setDrained_lots (n : Fin 13) (l : Link) : (s.setDrained n l).lots = s.lots := rfl
@[simp] theorem State.setDrained_slots (n : Fin 13) (l : Link) : (s.setDrained n l).slots = s.slots := rfl
@[simp] theorem State.setDrained_clearList (n : Fin 13) (l : Link) : (s.setDrained n l).clearList = s.clearList := rfl
@[simp] theorem State.setDrained_directory (n : Fin 13) (l : Link) : (s.setDrained n l).directory = s.directory := rfl
@[simp] theorem State.setDrained_pinCount (n : Fin 13) (l : Link) : (s.setDrained n l).pinCount = s.pinCount := rfl
@[simp] theorem State.setDrained_closeSeq (n : Fin 13) (l : Link) : (s.setDrained n l).closeSeq = s.closeSeq := rfl
@[simp] theorem State.setDrained_testers (n : Fin 13) (l : Link) : (s.setDrained n l).testers = s.testers := rfl
@[simp] theorem State.setDrained_pointer (n : Fin 13) (l : Link) : (s.setDrained n l).pointer = s.pointer := rfl
@[simp] theorem State.setDrained_jobs (n : Fin 13) (l : Link) : (s.setDrained n l).jobs = s.jobs := rfl
@[simp] theorem State.setDrained_transfer (n : Fin 13) (l : Link) : (s.setDrained n l).transfer = s.transfer := rfl
@[simp] theorem State.setDrained_current (n : Fin 13) (l : Link) : (s.setDrained n l).current = s.current := rfl
@[simp] theorem State.setDrained_completions (n : Fin 13) (l : Link) : (s.setDrained n l).completions = s.completions := rfl
@[simp] theorem State.setDrained_stopAll (n : Fin 13) (l : Link) : (s.setDrained n l).stopAll = s.stopAll := rfl
@[simp] theorem State.setDrained_dropped (n : Fin 13) (l : Link) : (s.setDrained n l).dropped = s.dropped := rfl
@[simp] theorem State.setDrained_freeIndex (n : Fin 13) (l : Link) : (s.setDrained n l).freeIndex = s.freeIndex := rfl
@[simp] theorem State.setDrained_lastSent (n : Fin 13) (l : Link) : (s.setDrained n l).lastSent = s.lastSent := rfl

/-! ### State.setTester -/

@[simp] theorem State.setTester_pending (n : Fin 12) (r : Tester) : (s.setTester n r).pending = s.pending := rfl
@[simp] theorem State.setTester_resetPin (n : Fin 12) (r : Tester) : (s.setTester n r).resetPin = s.resetPin := rfl
@[simp] theorem State.setTester_recipes (n : Fin 12) (r : Tester) : (s.setTester n r).recipes = s.recipes := rfl
@[simp] theorem State.setTester_staging (n : Fin 12) (r : Tester) : (s.setTester n r).staging = s.staging := rfl
@[simp] theorem State.setTester_lots (n : Fin 12) (r : Tester) : (s.setTester n r).lots = s.lots := rfl
@[simp] theorem State.setTester_slots (n : Fin 12) (r : Tester) : (s.setTester n r).slots = s.slots := rfl
@[simp] theorem State.setTester_clearList (n : Fin 12) (r : Tester) : (s.setTester n r).clearList = s.clearList := rfl
@[simp] theorem State.setTester_directory (n : Fin 12) (r : Tester) : (s.setTester n r).directory = s.directory := rfl
@[simp] theorem State.setTester_pinCount (n : Fin 12) (r : Tester) : (s.setTester n r).pinCount = s.pinCount := rfl
@[simp] theorem State.setTester_closeSeq (n : Fin 12) (r : Tester) : (s.setTester n r).closeSeq = s.closeSeq := rfl
@[simp] theorem State.setTester_pointer (n : Fin 12) (r : Tester) : (s.setTester n r).pointer = s.pointer := rfl
@[simp] theorem State.setTester_jobs (n : Fin 12) (r : Tester) : (s.setTester n r).jobs = s.jobs := rfl
@[simp] theorem State.setTester_transfer (n : Fin 12) (r : Tester) : (s.setTester n r).transfer = s.transfer := rfl
@[simp] theorem State.setTester_links (n : Fin 12) (r : Tester) : (s.setTester n r).links = s.links := rfl
@[simp] theorem State.setTester_current (n : Fin 12) (r : Tester) : (s.setTester n r).current = s.current := rfl
@[simp] theorem State.setTester_completions (n : Fin 12) (r : Tester) : (s.setTester n r).completions = s.completions := rfl
@[simp] theorem State.setTester_stopAll (n : Fin 12) (r : Tester) : (s.setTester n r).stopAll = s.stopAll := rfl
@[simp] theorem State.setTester_dropped (n : Fin 12) (r : Tester) : (s.setTester n r).dropped = s.dropped := rfl
@[simp] theorem State.setTester_freeIndex (n : Fin 12) (r : Tester) : (s.setTester n r).freeIndex = s.freeIndex := rfl
@[simp] theorem State.setTester_lastSent (n : Fin 12) (r : Tester) : (s.setTester n r).lastSent = s.lastSent := rfl

/-! ### State.setBinding -/

@[simp] theorem State.setBinding_pending (n : Fin 12) (a : Fin 4) (e : Binding) : (s.setBinding n a e).pending = s.pending := rfl
@[simp] theorem State.setBinding_resetPin (n : Fin 12) (a : Fin 4) (e : Binding) : (s.setBinding n a e).resetPin = s.resetPin := rfl
@[simp] theorem State.setBinding_recipes (n : Fin 12) (a : Fin 4) (e : Binding) : (s.setBinding n a e).recipes = s.recipes := rfl
@[simp] theorem State.setBinding_staging (n : Fin 12) (a : Fin 4) (e : Binding) : (s.setBinding n a e).staging = s.staging := rfl
@[simp] theorem State.setBinding_lots (n : Fin 12) (a : Fin 4) (e : Binding) : (s.setBinding n a e).lots = s.lots := rfl
@[simp] theorem State.setBinding_slots (n : Fin 12) (a : Fin 4) (e : Binding) : (s.setBinding n a e).slots = s.slots := rfl
@[simp] theorem State.setBinding_clearList (n : Fin 12) (a : Fin 4) (e : Binding) : (s.setBinding n a e).clearList = s.clearList := rfl
@[simp] theorem State.setBinding_directory (n : Fin 12) (a : Fin 4) (e : Binding) : (s.setBinding n a e).directory = s.directory := rfl
@[simp] theorem State.setBinding_pinCount (n : Fin 12) (a : Fin 4) (e : Binding) : (s.setBinding n a e).pinCount = s.pinCount := rfl
@[simp] theorem State.setBinding_closeSeq (n : Fin 12) (a : Fin 4) (e : Binding) : (s.setBinding n a e).closeSeq = s.closeSeq := rfl
@[simp] theorem State.setBinding_pointer (n : Fin 12) (a : Fin 4) (e : Binding) : (s.setBinding n a e).pointer = s.pointer := rfl
@[simp] theorem State.setBinding_jobs (n : Fin 12) (a : Fin 4) (e : Binding) : (s.setBinding n a e).jobs = s.jobs := rfl
@[simp] theorem State.setBinding_transfer (n : Fin 12) (a : Fin 4) (e : Binding) : (s.setBinding n a e).transfer = s.transfer := rfl
@[simp] theorem State.setBinding_links (n : Fin 12) (a : Fin 4) (e : Binding) : (s.setBinding n a e).links = s.links := rfl
@[simp] theorem State.setBinding_current (n : Fin 12) (a : Fin 4) (e : Binding) : (s.setBinding n a e).current = s.current := rfl
@[simp] theorem State.setBinding_completions (n : Fin 12) (a : Fin 4) (e : Binding) : (s.setBinding n a e).completions = s.completions := rfl
@[simp] theorem State.setBinding_stopAll (n : Fin 12) (a : Fin 4) (e : Binding) : (s.setBinding n a e).stopAll = s.stopAll := rfl
@[simp] theorem State.setBinding_dropped (n : Fin 12) (a : Fin 4) (e : Binding) : (s.setBinding n a e).dropped = s.dropped := rfl
@[simp] theorem State.setBinding_freeIndex (n : Fin 12) (a : Fin 4) (e : Binding) : (s.setBinding n a e).freeIndex = s.freeIndex := rfl
@[simp] theorem State.setBinding_lastSent (n : Fin 12) (a : Fin 4) (e : Binding) : (s.setBinding n a e).lastSent = s.lastSent := rfl

/-! ### State.place -/

@[simp] theorem State.place_pending (n : Fin 13) (m : Message) : (s.place n m).pending = s.pending := rfl
@[simp] theorem State.place_resetPin (n : Fin 13) (m : Message) : (s.place n m).resetPin = s.resetPin := rfl
@[simp] theorem State.place_recipes (n : Fin 13) (m : Message) : (s.place n m).recipes = s.recipes := rfl
@[simp] theorem State.place_staging (n : Fin 13) (m : Message) : (s.place n m).staging = s.staging := rfl
@[simp] theorem State.place_lots (n : Fin 13) (m : Message) : (s.place n m).lots = s.lots := rfl
@[simp] theorem State.place_slots (n : Fin 13) (m : Message) : (s.place n m).slots = s.slots := rfl
@[simp] theorem State.place_clearList (n : Fin 13) (m : Message) : (s.place n m).clearList = s.clearList := rfl
@[simp] theorem State.place_directory (n : Fin 13) (m : Message) : (s.place n m).directory = s.directory := rfl
@[simp] theorem State.place_pinCount (n : Fin 13) (m : Message) : (s.place n m).pinCount = s.pinCount := rfl
@[simp] theorem State.place_closeSeq (n : Fin 13) (m : Message) : (s.place n m).closeSeq = s.closeSeq := rfl
@[simp] theorem State.place_testers (n : Fin 13) (m : Message) : (s.place n m).testers = s.testers := rfl
@[simp] theorem State.place_pointer (n : Fin 13) (m : Message) : (s.place n m).pointer = s.pointer := rfl
@[simp] theorem State.place_jobs (n : Fin 13) (m : Message) : (s.place n m).jobs = s.jobs := rfl
@[simp] theorem State.place_transfer (n : Fin 13) (m : Message) : (s.place n m).transfer = s.transfer := rfl
@[simp] theorem State.place_current (n : Fin 13) (m : Message) : (s.place n m).current = s.current := rfl
@[simp] theorem State.place_completions (n : Fin 13) (m : Message) : (s.place n m).completions = s.completions := rfl
@[simp] theorem State.place_stopAll (n : Fin 13) (m : Message) : (s.place n m).stopAll = s.stopAll := rfl
@[simp] theorem State.place_dropped (n : Fin 13) (m : Message) : (s.place n m).dropped = s.dropped := rfl
@[simp] theorem State.place_freeIndex (n : Fin 13) (m : Message) : (s.place n m).freeIndex = s.freeIndex := rfl
@[simp] theorem State.place_lastSent (n : Fin 13) (m : Message) : (s.place n m).lastSent = s.lastSent := rfl

/-! ### State.hand -/

@[simp] theorem State.hand_pending (ds : List Done) : (s.hand ds).pending = s.pending := rfl
@[simp] theorem State.hand_resetPin (ds : List Done) : (s.hand ds).resetPin = s.resetPin := rfl
@[simp] theorem State.hand_recipes (ds : List Done) : (s.hand ds).recipes = s.recipes := rfl
@[simp] theorem State.hand_staging (ds : List Done) : (s.hand ds).staging = s.staging := rfl
@[simp] theorem State.hand_lots (ds : List Done) : (s.hand ds).lots = s.lots := rfl
@[simp] theorem State.hand_slots (ds : List Done) : (s.hand ds).slots = s.slots := rfl
@[simp] theorem State.hand_clearList (ds : List Done) : (s.hand ds).clearList = s.clearList := rfl
@[simp] theorem State.hand_directory (ds : List Done) : (s.hand ds).directory = s.directory := rfl
@[simp] theorem State.hand_pinCount (ds : List Done) : (s.hand ds).pinCount = s.pinCount := rfl
@[simp] theorem State.hand_closeSeq (ds : List Done) : (s.hand ds).closeSeq = s.closeSeq := rfl
@[simp] theorem State.hand_testers (ds : List Done) : (s.hand ds).testers = s.testers := rfl
@[simp] theorem State.hand_pointer (ds : List Done) : (s.hand ds).pointer = s.pointer := rfl
@[simp] theorem State.hand_jobs (ds : List Done) : (s.hand ds).jobs = s.jobs := rfl
@[simp] theorem State.hand_transfer (ds : List Done) : (s.hand ds).transfer = s.transfer := rfl
@[simp] theorem State.hand_links (ds : List Done) : (s.hand ds).links = s.links := rfl
@[simp] theorem State.hand_current (ds : List Done) : (s.hand ds).current = s.current := rfl
@[simp] theorem State.hand_stopAll (ds : List Done) : (s.hand ds).stopAll = s.stopAll := rfl
@[simp] theorem State.hand_dropped (ds : List Done) : (s.hand ds).dropped = s.dropped := rfl
@[simp] theorem State.hand_freeIndex (ds : List Done) : (s.hand ds).freeIndex = s.freeIndex := rfl
@[simp] theorem State.hand_lastSent (ds : List Done) : (s.hand ds).lastSent = s.lastSent := rfl

/-! ### State.takeFrame -/

@[simp] theorem State.takeFrame_pending (n : Fin 12) : (s.takeFrame n).pending = s.pending := rfl
@[simp] theorem State.takeFrame_resetPin (n : Fin 12) : (s.takeFrame n).resetPin = s.resetPin := rfl
@[simp] theorem State.takeFrame_recipes (n : Fin 12) : (s.takeFrame n).recipes = s.recipes := rfl
@[simp] theorem State.takeFrame_staging (n : Fin 12) : (s.takeFrame n).staging = s.staging := rfl
@[simp] theorem State.takeFrame_lots (n : Fin 12) : (s.takeFrame n).lots = s.lots := rfl
@[simp] theorem State.takeFrame_slots (n : Fin 12) : (s.takeFrame n).slots = s.slots := rfl
@[simp] theorem State.takeFrame_clearList (n : Fin 12) : (s.takeFrame n).clearList = s.clearList := rfl
@[simp] theorem State.takeFrame_directory (n : Fin 12) : (s.takeFrame n).directory = s.directory := rfl
@[simp] theorem State.takeFrame_pinCount (n : Fin 12) : (s.takeFrame n).pinCount = s.pinCount := rfl
@[simp] theorem State.takeFrame_closeSeq (n : Fin 12) : (s.takeFrame n).closeSeq = s.closeSeq := rfl
@[simp] theorem State.takeFrame_testers (n : Fin 12) : (s.takeFrame n).testers = s.testers := rfl
@[simp] theorem State.takeFrame_jobs (n : Fin 12) : (s.takeFrame n).jobs = s.jobs := rfl
@[simp] theorem State.takeFrame_transfer (n : Fin 12) : (s.takeFrame n).transfer = s.transfer := rfl
@[simp] theorem State.takeFrame_current (n : Fin 12) : (s.takeFrame n).current = s.current := rfl
@[simp] theorem State.takeFrame_completions (n : Fin 12) : (s.takeFrame n).completions = s.completions := rfl
@[simp] theorem State.takeFrame_stopAll (n : Fin 12) : (s.takeFrame n).stopAll = s.stopAll := rfl
@[simp] theorem State.takeFrame_dropped (n : Fin 12) : (s.takeFrame n).dropped = s.dropped := rfl
@[simp] theorem State.takeFrame_freeIndex (n : Fin 12) : (s.takeFrame n).freeIndex = s.freeIndex := rfl
@[simp] theorem State.takeFrame_lastSent (n : Fin 12) : (s.takeFrame n).lastSent = s.lastSent := rfl

/-! ### State.initSlot -/

@[simp] theorem State.initSlot_pending (i : Fin 64) (o : PendingOpen) : (s.initSlot i o).pending = s.pending := rfl
@[simp] theorem State.initSlot_resetPin (i : Fin 64) (o : PendingOpen) : (s.initSlot i o).resetPin = s.resetPin := rfl
@[simp] theorem State.initSlot_recipes (i : Fin 64) (o : PendingOpen) : (s.initSlot i o).recipes = s.recipes := rfl
@[simp] theorem State.initSlot_staging (i : Fin 64) (o : PendingOpen) : (s.initSlot i o).staging = s.staging := rfl
@[simp] theorem State.initSlot_lots (i : Fin 64) (o : PendingOpen) : (s.initSlot i o).lots = s.lots := rfl
@[simp] theorem State.initSlot_clearList (i : Fin 64) (o : PendingOpen) : (s.initSlot i o).clearList = s.clearList := rfl
@[simp] theorem State.initSlot_directory (i : Fin 64) (o : PendingOpen) : (s.initSlot i o).directory = s.directory := rfl
@[simp] theorem State.initSlot_pinCount (i : Fin 64) (o : PendingOpen) : (s.initSlot i o).pinCount = s.pinCount := rfl
@[simp] theorem State.initSlot_closeSeq (i : Fin 64) (o : PendingOpen) : (s.initSlot i o).closeSeq = s.closeSeq := rfl
@[simp] theorem State.initSlot_testers (i : Fin 64) (o : PendingOpen) : (s.initSlot i o).testers = s.testers := rfl
@[simp] theorem State.initSlot_pointer (i : Fin 64) (o : PendingOpen) : (s.initSlot i o).pointer = s.pointer := rfl
@[simp] theorem State.initSlot_jobs (i : Fin 64) (o : PendingOpen) : (s.initSlot i o).jobs = s.jobs := rfl
@[simp] theorem State.initSlot_transfer (i : Fin 64) (o : PendingOpen) : (s.initSlot i o).transfer = s.transfer := rfl
@[simp] theorem State.initSlot_links (i : Fin 64) (o : PendingOpen) : (s.initSlot i o).links = s.links := rfl
@[simp] theorem State.initSlot_current (i : Fin 64) (o : PendingOpen) : (s.initSlot i o).current = s.current := rfl
@[simp] theorem State.initSlot_completions (i : Fin 64) (o : PendingOpen) : (s.initSlot i o).completions = s.completions := rfl
@[simp] theorem State.initSlot_stopAll (i : Fin 64) (o : PendingOpen) : (s.initSlot i o).stopAll = s.stopAll := rfl
@[simp] theorem State.initSlot_dropped (i : Fin 64) (o : PendingOpen) : (s.initSlot i o).dropped = s.dropped := rfl
@[simp] theorem State.initSlot_freeIndex (i : Fin 64) (o : PendingOpen) : (s.initSlot i o).freeIndex = s.freeIndex := rfl
@[simp] theorem State.initSlot_lastSent (i : Fin 64) (o : PendingOpen) : (s.initSlot i o).lastSent = s.lastSent := rfl

/-! ### State.enterDirectory -/

@[simp] theorem State.enterDirectory_pending (k : Fin 16) (w : Nat) (i : Fin 64) : (s.enterDirectory k w i).pending = s.pending := rfl
@[simp] theorem State.enterDirectory_resetPin (k : Fin 16) (w : Nat) (i : Fin 64) : (s.enterDirectory k w i).resetPin = s.resetPin := rfl
@[simp] theorem State.enterDirectory_recipes (k : Fin 16) (w : Nat) (i : Fin 64) : (s.enterDirectory k w i).recipes = s.recipes := rfl
@[simp] theorem State.enterDirectory_staging (k : Fin 16) (w : Nat) (i : Fin 64) : (s.enterDirectory k w i).staging = s.staging := rfl
@[simp] theorem State.enterDirectory_lots (k : Fin 16) (w : Nat) (i : Fin 64) : (s.enterDirectory k w i).lots = s.lots := rfl
@[simp] theorem State.enterDirectory_slots (k : Fin 16) (w : Nat) (i : Fin 64) : (s.enterDirectory k w i).slots = s.slots := rfl
@[simp] theorem State.enterDirectory_clearList (k : Fin 16) (w : Nat) (i : Fin 64) : (s.enterDirectory k w i).clearList = s.clearList := rfl
@[simp] theorem State.enterDirectory_pinCount (k : Fin 16) (w : Nat) (i : Fin 64) : (s.enterDirectory k w i).pinCount = s.pinCount := rfl
@[simp] theorem State.enterDirectory_closeSeq (k : Fin 16) (w : Nat) (i : Fin 64) : (s.enterDirectory k w i).closeSeq = s.closeSeq := rfl
@[simp] theorem State.enterDirectory_testers (k : Fin 16) (w : Nat) (i : Fin 64) : (s.enterDirectory k w i).testers = s.testers := rfl
@[simp] theorem State.enterDirectory_pointer (k : Fin 16) (w : Nat) (i : Fin 64) : (s.enterDirectory k w i).pointer = s.pointer := rfl
@[simp] theorem State.enterDirectory_jobs (k : Fin 16) (w : Nat) (i : Fin 64) : (s.enterDirectory k w i).jobs = s.jobs := rfl
@[simp] theorem State.enterDirectory_transfer (k : Fin 16) (w : Nat) (i : Fin 64) : (s.enterDirectory k w i).transfer = s.transfer := rfl
@[simp] theorem State.enterDirectory_links (k : Fin 16) (w : Nat) (i : Fin 64) : (s.enterDirectory k w i).links = s.links := rfl
@[simp] theorem State.enterDirectory_current (k : Fin 16) (w : Nat) (i : Fin 64) : (s.enterDirectory k w i).current = s.current := rfl
@[simp] theorem State.enterDirectory_completions (k : Fin 16) (w : Nat) (i : Fin 64) : (s.enterDirectory k w i).completions = s.completions := rfl
@[simp] theorem State.enterDirectory_stopAll (k : Fin 16) (w : Nat) (i : Fin 64) : (s.enterDirectory k w i).stopAll = s.stopAll := rfl
@[simp] theorem State.enterDirectory_dropped (k : Fin 16) (w : Nat) (i : Fin 64) : (s.enterDirectory k w i).dropped = s.dropped := rfl
@[simp] theorem State.enterDirectory_freeIndex (k : Fin 16) (w : Nat) (i : Fin 64) : (s.enterDirectory k w i).freeIndex = s.freeIndex := rfl
@[simp] theorem State.enterDirectory_lastSent (k : Fin 16) (w : Nat) (i : Fin 64) : (s.enterDirectory k w i).lastSent = s.lastSent := rfl

/-! ### State.addMember -/

@[simp] theorem State.addMember_pending (k : Fin 16) (m : Member) : (s.addMember k m).pending = s.pending := rfl
@[simp] theorem State.addMember_resetPin (k : Fin 16) (m : Member) : (s.addMember k m).resetPin = s.resetPin := rfl
@[simp] theorem State.addMember_recipes (k : Fin 16) (m : Member) : (s.addMember k m).recipes = s.recipes := rfl
@[simp] theorem State.addMember_staging (k : Fin 16) (m : Member) : (s.addMember k m).staging = s.staging := rfl
@[simp] theorem State.addMember_slots (k : Fin 16) (m : Member) : (s.addMember k m).slots = s.slots := rfl
@[simp] theorem State.addMember_clearList (k : Fin 16) (m : Member) : (s.addMember k m).clearList = s.clearList := rfl
@[simp] theorem State.addMember_directory (k : Fin 16) (m : Member) : (s.addMember k m).directory = s.directory := rfl
@[simp] theorem State.addMember_pinCount (k : Fin 16) (m : Member) : (s.addMember k m).pinCount = s.pinCount := rfl
@[simp] theorem State.addMember_closeSeq (k : Fin 16) (m : Member) : (s.addMember k m).closeSeq = s.closeSeq := rfl
@[simp] theorem State.addMember_testers (k : Fin 16) (m : Member) : (s.addMember k m).testers = s.testers := rfl
@[simp] theorem State.addMember_pointer (k : Fin 16) (m : Member) : (s.addMember k m).pointer = s.pointer := rfl
@[simp] theorem State.addMember_jobs (k : Fin 16) (m : Member) : (s.addMember k m).jobs = s.jobs := rfl
@[simp] theorem State.addMember_transfer (k : Fin 16) (m : Member) : (s.addMember k m).transfer = s.transfer := rfl
@[simp] theorem State.addMember_links (k : Fin 16) (m : Member) : (s.addMember k m).links = s.links := rfl
@[simp] theorem State.addMember_current (k : Fin 16) (m : Member) : (s.addMember k m).current = s.current := rfl
@[simp] theorem State.addMember_completions (k : Fin 16) (m : Member) : (s.addMember k m).completions = s.completions := rfl
@[simp] theorem State.addMember_stopAll (k : Fin 16) (m : Member) : (s.addMember k m).stopAll = s.stopAll := rfl
@[simp] theorem State.addMember_dropped (k : Fin 16) (m : Member) : (s.addMember k m).dropped = s.dropped := rfl
@[simp] theorem State.addMember_freeIndex (k : Fin 16) (m : Member) : (s.addMember k m).freeIndex = s.freeIndex := rfl
@[simp] theorem State.addMember_lastSent (k : Fin 16) (m : Member) : (s.addMember k m).lastSent = s.lastSent := rfl

/-! ### State.enterClearing -/

@[simp] theorem State.enterClearing_pending (i : Fin 64) : (s.enterClearing i).pending = s.pending := rfl
@[simp] theorem State.enterClearing_resetPin (i : Fin 64) : (s.enterClearing i).resetPin = s.resetPin := rfl
@[simp] theorem State.enterClearing_recipes (i : Fin 64) : (s.enterClearing i).recipes = s.recipes := rfl
@[simp] theorem State.enterClearing_staging (i : Fin 64) : (s.enterClearing i).staging = s.staging := rfl
@[simp] theorem State.enterClearing_lots (i : Fin 64) : (s.enterClearing i).lots = s.lots := rfl
@[simp] theorem State.enterClearing_closeSeq (i : Fin 64) : (s.enterClearing i).closeSeq = s.closeSeq := rfl
@[simp] theorem State.enterClearing_testers (i : Fin 64) : (s.enterClearing i).testers = s.testers := rfl
@[simp] theorem State.enterClearing_pointer (i : Fin 64) : (s.enterClearing i).pointer = s.pointer := rfl
@[simp] theorem State.enterClearing_jobs (i : Fin 64) : (s.enterClearing i).jobs = s.jobs := rfl
@[simp] theorem State.enterClearing_transfer (i : Fin 64) : (s.enterClearing i).transfer = s.transfer := rfl
@[simp] theorem State.enterClearing_links (i : Fin 64) : (s.enterClearing i).links = s.links := rfl
@[simp] theorem State.enterClearing_current (i : Fin 64) : (s.enterClearing i).current = s.current := rfl
@[simp] theorem State.enterClearing_completions (i : Fin 64) : (s.enterClearing i).completions = s.completions := rfl
@[simp] theorem State.enterClearing_stopAll (i : Fin 64) : (s.enterClearing i).stopAll = s.stopAll := rfl
@[simp] theorem State.enterClearing_dropped (i : Fin 64) : (s.enterClearing i).dropped = s.dropped := rfl
@[simp] theorem State.enterClearing_freeIndex (i : Fin 64) : (s.enterClearing i).freeIndex = s.freeIndex := rfl
@[simp] theorem State.enterClearing_lastSent (i : Fin 64) : (s.enterClearing i).lastSent = s.lastSent := rfl

/-! ### State.attach -/

@[simp] theorem State.attach_pending (i : Fin 64) (o : PendingOpen) : (s.attach i o).pending = s.pending := rfl
@[simp] theorem State.attach_resetPin (i : Fin 64) (o : PendingOpen) : (s.attach i o).resetPin = s.resetPin := rfl
@[simp] theorem State.attach_recipes (i : Fin 64) (o : PendingOpen) : (s.attach i o).recipes = s.recipes := rfl
@[simp] theorem State.attach_staging (i : Fin 64) (o : PendingOpen) : (s.attach i o).staging = s.staging := rfl
@[simp] theorem State.attach_clearList (i : Fin 64) (o : PendingOpen) : (s.attach i o).clearList = s.clearList := rfl
@[simp] theorem State.attach_pinCount (i : Fin 64) (o : PendingOpen) : (s.attach i o).pinCount = s.pinCount := rfl
@[simp] theorem State.attach_closeSeq (i : Fin 64) (o : PendingOpen) : (s.attach i o).closeSeq = s.closeSeq := rfl
@[simp] theorem State.attach_testers (i : Fin 64) (o : PendingOpen) : (s.attach i o).testers = s.testers := rfl
@[simp] theorem State.attach_pointer (i : Fin 64) (o : PendingOpen) : (s.attach i o).pointer = s.pointer := rfl
@[simp] theorem State.attach_jobs (i : Fin 64) (o : PendingOpen) : (s.attach i o).jobs = s.jobs := rfl
@[simp] theorem State.attach_transfer (i : Fin 64) (o : PendingOpen) : (s.attach i o).transfer = s.transfer := rfl
@[simp] theorem State.attach_links (i : Fin 64) (o : PendingOpen) : (s.attach i o).links = s.links := rfl
@[simp] theorem State.attach_current (i : Fin 64) (o : PendingOpen) : (s.attach i o).current = s.current := rfl
@[simp] theorem State.attach_completions (i : Fin 64) (o : PendingOpen) : (s.attach i o).completions = s.completions := rfl
@[simp] theorem State.attach_stopAll (i : Fin 64) (o : PendingOpen) : (s.attach i o).stopAll = s.stopAll := rfl
@[simp] theorem State.attach_dropped (i : Fin 64) (o : PendingOpen) : (s.attach i o).dropped = s.dropped := rfl
@[simp] theorem State.attach_freeIndex (i : Fin 64) (o : PendingOpen) : (s.attach i o).freeIndex = s.freeIndex := rfl
@[simp] theorem State.attach_lastSent (i : Fin 64) (o : PendingOpen) : (s.attach i o).lastSent = s.lastSent := rfl

/-! ### State.openNow -/

@[simp] theorem State.openNow_pending (i : Fin 64) (o : PendingOpen) : (s.openNow i o).pending = s.pending := rfl
@[simp] theorem State.openNow_resetPin (i : Fin 64) (o : PendingOpen) : (s.openNow i o).resetPin = s.resetPin := rfl
@[simp] theorem State.openNow_recipes (i : Fin 64) (o : PendingOpen) : (s.openNow i o).recipes = s.recipes := rfl
@[simp] theorem State.openNow_staging (i : Fin 64) (o : PendingOpen) : (s.openNow i o).staging = s.staging := rfl
@[simp] theorem State.openNow_clearList (i : Fin 64) (o : PendingOpen) : (s.openNow i o).clearList = s.clearList := rfl
@[simp] theorem State.openNow_pinCount (i : Fin 64) (o : PendingOpen) : (s.openNow i o).pinCount = s.pinCount := rfl
@[simp] theorem State.openNow_closeSeq (i : Fin 64) (o : PendingOpen) : (s.openNow i o).closeSeq = s.closeSeq := rfl
@[simp] theorem State.openNow_testers (i : Fin 64) (o : PendingOpen) : (s.openNow i o).testers = s.testers := rfl
@[simp] theorem State.openNow_pointer (i : Fin 64) (o : PendingOpen) : (s.openNow i o).pointer = s.pointer := rfl
@[simp] theorem State.openNow_jobs (i : Fin 64) (o : PendingOpen) : (s.openNow i o).jobs = s.jobs := rfl
@[simp] theorem State.openNow_transfer (i : Fin 64) (o : PendingOpen) : (s.openNow i o).transfer = s.transfer := rfl
@[simp] theorem State.openNow_links (i : Fin 64) (o : PendingOpen) : (s.openNow i o).links = s.links := rfl
@[simp] theorem State.openNow_current (i : Fin 64) (o : PendingOpen) : (s.openNow i o).current = s.current := rfl
@[simp] theorem State.openNow_completions (i : Fin 64) (o : PendingOpen) : (s.openNow i o).completions = s.completions := rfl
@[simp] theorem State.openNow_stopAll (i : Fin 64) (o : PendingOpen) : (s.openNow i o).stopAll = s.stopAll := rfl
@[simp] theorem State.openNow_dropped (i : Fin 64) (o : PendingOpen) : (s.openNow i o).dropped = s.dropped := rfl
@[simp] theorem State.openNow_freeIndex (i : Fin 64) (o : PendingOpen) : (s.openNow i o).freeIndex = s.freeIndex := rfl
@[simp] theorem State.openNow_lastSent (i : Fin 64) (o : PendingOpen) : (s.openNow i o).lastSent = s.lastSent := rfl

/-! ### State.unbindAll -/

@[simp] theorem State.unbindAll_pending (i : Fin 64) : (s.unbindAll i).pending = s.pending := rfl
@[simp] theorem State.unbindAll_resetPin (i : Fin 64) : (s.unbindAll i).resetPin = s.resetPin := rfl
@[simp] theorem State.unbindAll_recipes (i : Fin 64) : (s.unbindAll i).recipes = s.recipes := rfl
@[simp] theorem State.unbindAll_staging (i : Fin 64) : (s.unbindAll i).staging = s.staging := rfl
@[simp] theorem State.unbindAll_lots (i : Fin 64) : (s.unbindAll i).lots = s.lots := rfl
@[simp] theorem State.unbindAll_slots (i : Fin 64) : (s.unbindAll i).slots = s.slots := rfl
@[simp] theorem State.unbindAll_clearList (i : Fin 64) : (s.unbindAll i).clearList = s.clearList := rfl
@[simp] theorem State.unbindAll_directory (i : Fin 64) : (s.unbindAll i).directory = s.directory := rfl
@[simp] theorem State.unbindAll_pinCount (i : Fin 64) : (s.unbindAll i).pinCount = s.pinCount := rfl
@[simp] theorem State.unbindAll_closeSeq (i : Fin 64) : (s.unbindAll i).closeSeq = s.closeSeq := rfl
@[simp] theorem State.unbindAll_pointer (i : Fin 64) : (s.unbindAll i).pointer = s.pointer := rfl
@[simp] theorem State.unbindAll_jobs (i : Fin 64) : (s.unbindAll i).jobs = s.jobs := rfl
@[simp] theorem State.unbindAll_transfer (i : Fin 64) : (s.unbindAll i).transfer = s.transfer := rfl
@[simp] theorem State.unbindAll_links (i : Fin 64) : (s.unbindAll i).links = s.links := rfl
@[simp] theorem State.unbindAll_current (i : Fin 64) : (s.unbindAll i).current = s.current := rfl
@[simp] theorem State.unbindAll_completions (i : Fin 64) : (s.unbindAll i).completions = s.completions := rfl
@[simp] theorem State.unbindAll_stopAll (i : Fin 64) : (s.unbindAll i).stopAll = s.stopAll := rfl
@[simp] theorem State.unbindAll_dropped (i : Fin 64) : (s.unbindAll i).dropped = s.dropped := rfl
@[simp] theorem State.unbindAll_freeIndex (i : Fin 64) : (s.unbindAll i).freeIndex = s.freeIndex := rfl
@[simp] theorem State.unbindAll_lastSent (i : Fin 64) : (s.unbindAll i).lastSent = s.lastSent := rfl

/-! ### A link after each update of it -/

section
variable (l : Link) (m : Message)

@[simp] theorem Link.push_outbound : (l.push m).outbound = l.outbound ++ [m] := rfl
@[simp] theorem Link.push_state : (l.push m).state = l.state := rfl
@[simp] theorem Link.push_mode : (l.push m).mode = l.mode := rfl
@[simp] theorem Link.push_rate : (l.push m).rate = l.rate := rfl
@[simp] theorem Link.push_receiver : (l.push m).receiver = l.receiver := rfl
@[simp] theorem Link.push_holding : (l.push m).holding = l.holding := rfl
@[simp] theorem Link.push_lastError : (l.push m).lastError = l.lastError := rfl
@[simp] theorem Link.push_good : (l.push m).good = l.good := rfl
@[simp] theorem Link.push_bad : (l.push m).bad = l.bad := rfl
@[simp] theorem Link.push_overruns : (l.push m).overruns = l.overruns := rfl
@[simp] theorem Link.push_discards : (l.push m).discards = l.discards := rfl

@[simp] theorem Link.sent_outbound : l.sent.outbound = l.outbound.tail := rfl
@[simp] theorem Link.sent_state : l.sent.state = l.state := rfl
@[simp] theorem Link.sent_receiver : l.sent.receiver = l.receiver := rfl
@[simp] theorem Link.sent_holding : l.sent.holding = l.holding := rfl

@[simp] theorem Link.cleared_state : l.cleared.state = l.state := rfl
@[simp] theorem Link.cleared_receiver : l.cleared.receiver = l.receiver := rfl
@[simp] theorem Link.cleared_holding : l.cleared.holding = l.holding := rfl
@[simp] theorem Link.cleared_outbound : l.cleared.outbound = l.outbound := rfl

@[simp] theorem Link.discardAll_state : l.discardAll.state = .stopped := rfl
@[simp] theorem Link.discardAll_receiver : l.discardAll.receiver = .idle := rfl
@[simp] theorem Link.discardAll_holding : l.discardAll.holding = [] := rfl
@[simp] theorem Link.discardAll_outbound : l.discardAll.outbound = l.outbound := rfl

end

end Sys2Proof.Machine
end

