-- ==== Sys2Proof/Laws/Frames.lean ====
section
/-! SUPPORT. The frames of the operations that decide or repeat: one lemma per field that the operation leaves alone
whichever way it goes. -/

namespace Sys2Proof.Machine

variable (s : State)

/-! ### State.setMember -/

@[simp] theorem State.setMember_pending (id : Option Identity) (f : Member → Member) : (s.setMember id f).pending = s.pending := by cases id <;> rfl
@[simp] theorem State.setMember_resetPin (id : Option Identity) (f : Member → Member) : (s.setMember id f).resetPin = s.resetPin := by cases id <;> rfl
@[simp] theorem State.setMember_recipes (id : Option Identity) (f : Member → Member) : (s.setMember id f).recipes = s.recipes := by cases id <;> rfl
@[simp] theorem State.setMember_staging (id : Option Identity) (f : Member → Member) : (s.setMember id f).staging = s.staging := by cases id <;> rfl
@[simp] theorem State.setMember_slots (id : Option Identity) (f : Member → Member) : (s.setMember id f).slots = s.slots := by cases id <;> rfl
@[simp] theorem State.setMember_clearList (id : Option Identity) (f : Member → Member) : (s.setMember id f).clearList = s.clearList := by cases id <;> rfl
@[simp] theorem State.setMember_directory (id : Option Identity) (f : Member → Member) : (s.setMember id f).directory = s.directory := by cases id <;> rfl
@[simp] theorem State.setMember_pinCount (id : Option Identity) (f : Member → Member) : (s.setMember id f).pinCount = s.pinCount := by cases id <;> rfl
@[simp] theorem State.setMember_closeSeq (id : Option Identity) (f : Member → Member) : (s.setMember id f).closeSeq = s.closeSeq := by cases id <;> rfl
@[simp] theorem State.setMember_testers (id : Option Identity) (f : Member → Member) : (s.setMember id f).testers = s.testers := by cases id <;> rfl
@[simp] theorem State.setMember_pointer (id : Option Identity) (f : Member → Member) : (s.setMember id f).pointer = s.pointer := by cases id <;> rfl
@[simp] theorem State.setMember_jobs (id : Option Identity) (f : Member → Member) : (s.setMember id f).jobs = s.jobs := by cases id <;> rfl
@[simp] theorem State.setMember_transfer (id : Option Identity) (f : Member → Member) : (s.setMember id f).transfer = s.transfer := by cases id <;> rfl
@[simp] theorem State.setMember_links (id : Option Identity) (f : Member → Member) : (s.setMember id f).links = s.links := by cases id <;> rfl
@[simp] theorem State.setMember_current (id : Option Identity) (f : Member → Member) : (s.setMember id f).current = s.current := by cases id <;> rfl
@[simp] theorem State.setMember_completions (id : Option Identity) (f : Member → Member) : (s.setMember id f).completions = s.completions := by cases id <;> rfl
@[simp] theorem State.setMember_stopAll (id : Option Identity) (f : Member → Member) : (s.setMember id f).stopAll = s.stopAll := by cases id <;> rfl
@[simp] theorem State.setMember_dropped (id : Option Identity) (f : Member → Member) : (s.setMember id f).dropped = s.dropped := by cases id <;> rfl
@[simp] theorem State.setMember_freeIndex (id : Option Identity) (f : Member → Member) : (s.setMember id f).freeIndex = s.freeIndex := by cases id <;> rfl
@[simp] theorem State.setMember_lastSent (id : Option Identity) (f : Member → Member) : (s.setMember id f).lastSent = s.lastSent := by cases id <;> rfl

/-! ### State.foldCarry -/

@[simp] theorem State.foldCarry_pending (i : Fin 64) : (s.foldCarry i).pending = s.pending := by unfold State.foldCarry; split <;> rfl
@[simp] theorem State.foldCarry_resetPin (i : Fin 64) : (s.foldCarry i).resetPin = s.resetPin := by unfold State.foldCarry; split <;> rfl
@[simp] theorem State.foldCarry_recipes (i : Fin 64) : (s.foldCarry i).recipes = s.recipes := by unfold State.foldCarry; split <;> rfl
@[simp] theorem State.foldCarry_staging (i : Fin 64) : (s.foldCarry i).staging = s.staging := by unfold State.foldCarry; split <;> rfl
@[simp] theorem State.foldCarry_slots (i : Fin 64) : (s.foldCarry i).slots = s.slots := by unfold State.foldCarry; split <;> rfl
@[simp] theorem State.foldCarry_clearList (i : Fin 64) : (s.foldCarry i).clearList = s.clearList := by unfold State.foldCarry; split <;> rfl
@[simp] theorem State.foldCarry_directory (i : Fin 64) : (s.foldCarry i).directory = s.directory := by unfold State.foldCarry; split <;> rfl
@[simp] theorem State.foldCarry_pinCount (i : Fin 64) : (s.foldCarry i).pinCount = s.pinCount := by unfold State.foldCarry; split <;> rfl
@[simp] theorem State.foldCarry_closeSeq (i : Fin 64) : (s.foldCarry i).closeSeq = s.closeSeq := by unfold State.foldCarry; split <;> rfl
@[simp] theorem State.foldCarry_testers (i : Fin 64) : (s.foldCarry i).testers = s.testers := by unfold State.foldCarry; split <;> rfl
@[simp] theorem State.foldCarry_pointer (i : Fin 64) : (s.foldCarry i).pointer = s.pointer := by unfold State.foldCarry; split <;> rfl
@[simp] theorem State.foldCarry_jobs (i : Fin 64) : (s.foldCarry i).jobs = s.jobs := by unfold State.foldCarry; split <;> rfl
@[simp] theorem State.foldCarry_transfer (i : Fin 64) : (s.foldCarry i).transfer = s.transfer := by unfold State.foldCarry; split <;> rfl
@[simp] theorem State.foldCarry_links (i : Fin 64) : (s.foldCarry i).links = s.links := by unfold State.foldCarry; split <;> rfl
@[simp] theorem State.foldCarry_current (i : Fin 64) : (s.foldCarry i).current = s.current := by unfold State.foldCarry; split <;> rfl
@[simp] theorem State.foldCarry_completions (i : Fin 64) : (s.foldCarry i).completions = s.completions := by unfold State.foldCarry; split <;> rfl
@[simp] theorem State.foldCarry_stopAll (i : Fin 64) : (s.foldCarry i).stopAll = s.stopAll := by unfold State.foldCarry; split <;> rfl
@[simp] theorem State.foldCarry_dropped (i : Fin 64) : (s.foldCarry i).dropped = s.dropped := by unfold State.foldCarry; split <;> rfl
@[simp] theorem State.foldCarry_freeIndex (i : Fin 64) : (s.foldCarry i).freeIndex = s.freeIndex := by unfold State.foldCarry; split <;> rfl
@[simp] theorem State.foldCarry_lastSent (i : Fin 64) : (s.foldCarry i).lastSent = s.lastSent := by unfold State.foldCarry; split <;> rfl

/-! ### State.retire -/

@[simp] theorem State.retire_pending (i : Fin 64) : (s.retire i).pending = s.pending := by simp [State.retire]
@[simp] theorem State.retire_resetPin (i : Fin 64) : (s.retire i).resetPin = s.resetPin := by simp [State.retire]
@[simp] theorem State.retire_recipes (i : Fin 64) : (s.retire i).recipes = s.recipes := by simp [State.retire]
@[simp] theorem State.retire_staging (i : Fin 64) : (s.retire i).staging = s.staging := by simp [State.retire]
@[simp] theorem State.retire_closeSeq (i : Fin 64) : (s.retire i).closeSeq = s.closeSeq := by simp [State.retire]
@[simp] theorem State.retire_testers (i : Fin 64) : (s.retire i).testers = s.testers := by simp [State.retire]
@[simp] theorem State.retire_pointer (i : Fin 64) : (s.retire i).pointer = s.pointer := by simp [State.retire]
@[simp] theorem State.retire_jobs (i : Fin 64) : (s.retire i).jobs = s.jobs := by simp [State.retire]
@[simp] theorem State.retire_transfer (i : Fin 64) : (s.retire i).transfer = s.transfer := by simp [State.retire]
@[simp] theorem State.retire_links (i : Fin 64) : (s.retire i).links = s.links := by simp [State.retire]
@[simp] theorem State.retire_current (i : Fin 64) : (s.retire i).current = s.current := by simp [State.retire]
@[simp] theorem State.retire_completions (i : Fin 64) : (s.retire i).completions = s.completions := by simp [State.retire]
@[simp] theorem State.retire_stopAll (i : Fin 64) : (s.retire i).stopAll = s.stopAll := by simp [State.retire]
@[simp] theorem State.retire_dropped (i : Fin 64) : (s.retire i).dropped = s.dropped := by simp [State.retire]
@[simp] theorem State.retire_freeIndex (i : Fin 64) : (s.retire i).freeIndex = s.freeIndex := by simp [State.retire]
@[simp] theorem State.retire_lastSent (i : Fin 64) : (s.retire i).lastSent = s.lastSent := by simp [State.retire]

/-! ### State.putWafer -/

@[simp] theorem State.putWafer_pending (i : Fin 64) (w : Wafer) : (s.putWafer i w).pending = s.pending := by unfold State.putWafer; split <;> rfl
@[simp] theorem State.putWafer_resetPin (i : Fin 64) (w : Wafer) : (s.putWafer i w).resetPin = s.resetPin := by unfold State.putWafer; split <;> rfl
@[simp] theorem State.putWafer_recipes (i : Fin 64) (w : Wafer) : (s.putWafer i w).recipes = s.recipes := by unfold State.putWafer; split <;> rfl
@[simp] theorem State.putWafer_staging (i : Fin 64) (w : Wafer) : (s.putWafer i w).staging = s.staging := by unfold State.putWafer; split <;> rfl
@[simp] theorem State.putWafer_clearList (i : Fin 64) (w : Wafer) : (s.putWafer i w).clearList = s.clearList := by unfold State.putWafer; split <;> rfl
@[simp] theorem State.putWafer_directory (i : Fin 64) (w : Wafer) : (s.putWafer i w).directory = s.directory := by unfold State.putWafer; split <;> rfl
@[simp] theorem State.putWafer_pinCount (i : Fin 64) (w : Wafer) : (s.putWafer i w).pinCount = s.pinCount := by unfold State.putWafer; split <;> rfl
@[simp] theorem State.putWafer_closeSeq (i : Fin 64) (w : Wafer) : (s.putWafer i w).closeSeq = s.closeSeq := by unfold State.putWafer; split <;> rfl
@[simp] theorem State.putWafer_testers (i : Fin 64) (w : Wafer) : (s.putWafer i w).testers = s.testers := by unfold State.putWafer; split <;> rfl
@[simp] theorem State.putWafer_pointer (i : Fin 64) (w : Wafer) : (s.putWafer i w).pointer = s.pointer := by unfold State.putWafer; split <;> rfl
@[simp] theorem State.putWafer_jobs (i : Fin 64) (w : Wafer) : (s.putWafer i w).jobs = s.jobs := by unfold State.putWafer; split <;> rfl
@[simp] theorem State.putWafer_transfer (i : Fin 64) (w : Wafer) : (s.putWafer i w).transfer = s.transfer := by unfold State.putWafer; split <;> rfl
@[simp] theorem State.putWafer_links (i : Fin 64) (w : Wafer) : (s.putWafer i w).links = s.links := by unfold State.putWafer; split <;> rfl
@[simp] theorem State.putWafer_current (i : Fin 64) (w : Wafer) : (s.putWafer i w).current = s.current := by unfold State.putWafer; split <;> rfl
@[simp] theorem State.putWafer_completions (i : Fin 64) (w : Wafer) : (s.putWafer i w).completions = s.completions := by unfold State.putWafer; split <;> rfl
@[simp] theorem State.putWafer_stopAll (i : Fin 64) (w : Wafer) : (s.putWafer i w).stopAll = s.stopAll := by unfold State.putWafer; split <;> rfl
@[simp] theorem State.putWafer_dropped (i : Fin 64) (w : Wafer) : (s.putWafer i w).dropped = s.dropped := by unfold State.putWafer; split <;> rfl
@[simp] theorem State.putWafer_freeIndex (i : Fin 64) (w : Wafer) : (s.putWafer i w).freeIndex = s.freeIndex := by unfold State.putWafer; split <;> rfl
@[simp] theorem State.putWafer_lastSent (i : Fin 64) (w : Wafer) : (s.putWafer i w).lastSent = s.lastSent := by unfold State.putWafer; split <;> rfl

/-! ### State.readAhead -/

@[simp] theorem State.readAhead_pending (i : Fin 64) : (s.readAhead i).pending = s.pending := by unfold State.readAhead; split <;> (try split) <;> rfl
@[simp] theorem State.readAhead_resetPin (i : Fin 64) : (s.readAhead i).resetPin = s.resetPin := by unfold State.readAhead; split <;> (try split) <;> rfl
@[simp] theorem State.readAhead_recipes (i : Fin 64) : (s.readAhead i).recipes = s.recipes := by unfold State.readAhead; split <;> (try split) <;> rfl
@[simp] theorem State.readAhead_staging (i : Fin 64) : (s.readAhead i).staging = s.staging := by unfold State.readAhead; split <;> (try split) <;> rfl
@[simp] theorem State.readAhead_lots (i : Fin 64) : (s.readAhead i).lots = s.lots := by unfold State.readAhead; split <;> (try split) <;> rfl
@[simp] theorem State.readAhead_slots (i : Fin 64) : (s.readAhead i).slots = s.slots := by unfold State.readAhead; split <;> (try split) <;> rfl
@[simp] theorem State.readAhead_clearList (i : Fin 64) : (s.readAhead i).clearList = s.clearList := by unfold State.readAhead; split <;> (try split) <;> rfl
@[simp] theorem State.readAhead_directory (i : Fin 64) : (s.readAhead i).directory = s.directory := by unfold State.readAhead; split <;> (try split) <;> rfl
@[simp] theorem State.readAhead_pinCount (i : Fin 64) : (s.readAhead i).pinCount = s.pinCount := by unfold State.readAhead; split <;> (try split) <;> rfl
@[simp] theorem State.readAhead_closeSeq (i : Fin 64) : (s.readAhead i).closeSeq = s.closeSeq := by unfold State.readAhead; split <;> (try split) <;> rfl
@[simp] theorem State.readAhead_testers (i : Fin 64) : (s.readAhead i).testers = s.testers := by unfold State.readAhead; split <;> (try split) <;> rfl
@[simp] theorem State.readAhead_pointer (i : Fin 64) : (s.readAhead i).pointer = s.pointer := by unfold State.readAhead; split <;> (try split) <;> rfl
@[simp] theorem State.readAhead_transfer (i : Fin 64) : (s.readAhead i).transfer = s.transfer := by unfold State.readAhead; split <;> (try split) <;> rfl
@[simp] theorem State.readAhead_links (i : Fin 64) : (s.readAhead i).links = s.links := by unfold State.readAhead; split <;> (try split) <;> rfl
@[simp] theorem State.readAhead_current (i : Fin 64) : (s.readAhead i).current = s.current := by unfold State.readAhead; split <;> (try split) <;> rfl
@[simp] theorem State.readAhead_completions (i : Fin 64) : (s.readAhead i).completions = s.completions := by unfold State.readAhead; split <;> (try split) <;> rfl
@[simp] theorem State.readAhead_stopAll (i : Fin 64) : (s.readAhead i).stopAll = s.stopAll := by unfold State.readAhead; split <;> (try split) <;> rfl
@[simp] theorem State.readAhead_dropped (i : Fin 64) : (s.readAhead i).dropped = s.dropped := by unfold State.readAhead; split <;> (try split) <;> rfl
@[simp] theorem State.readAhead_lastSent (i : Fin 64) : (s.readAhead i).lastSent = s.lastSent := by unfold State.readAhead; split <;> (try split) <;> rfl

/-! ### State.commit -/

@[simp] theorem State.commit_pending (i : Fin 64) (w : Wafer) : (s.commit i w).pending = s.pending := by simp [State.commit]
@[simp] theorem State.commit_resetPin (i : Fin 64) (w : Wafer) : (s.commit i w).resetPin = s.resetPin := by simp [State.commit]
@[simp] theorem State.commit_recipes (i : Fin 64) (w : Wafer) : (s.commit i w).recipes = s.recipes := by simp [State.commit]
@[simp] theorem State.commit_staging (i : Fin 64) (w : Wafer) : (s.commit i w).staging = s.staging := by simp [State.commit]
@[simp] theorem State.commit_clearList (i : Fin 64) (w : Wafer) : (s.commit i w).clearList = s.clearList := by simp [State.commit]
@[simp] theorem State.commit_directory (i : Fin 64) (w : Wafer) : (s.commit i w).directory = s.directory := by simp [State.commit]
@[simp] theorem State.commit_pinCount (i : Fin 64) (w : Wafer) : (s.commit i w).pinCount = s.pinCount := by simp [State.commit]
@[simp] theorem State.commit_closeSeq (i : Fin 64) (w : Wafer) : (s.commit i w).closeSeq = s.closeSeq := by simp [State.commit]
@[simp] theorem State.commit_testers (i : Fin 64) (w : Wafer) : (s.commit i w).testers = s.testers := by simp [State.commit]
@[simp] theorem State.commit_pointer (i : Fin 64) (w : Wafer) : (s.commit i w).pointer = s.pointer := by simp [State.commit]
@[simp] theorem State.commit_transfer (i : Fin 64) (w : Wafer) : (s.commit i w).transfer = s.transfer := by simp [State.commit]
@[simp] theorem State.commit_links (i : Fin 64) (w : Wafer) : (s.commit i w).links = s.links := by simp [State.commit]
@[simp] theorem State.commit_current (i : Fin 64) (w : Wafer) : (s.commit i w).current = s.current := by simp [State.commit]
@[simp] theorem State.commit_completions (i : Fin 64) (w : Wafer) : (s.commit i w).completions = s.completions := by simp [State.commit]
@[simp] theorem State.commit_stopAll (i : Fin 64) (w : Wafer) : (s.commit i w).stopAll = s.stopAll := by simp [State.commit]
@[simp] theorem State.commit_dropped (i : Fin 64) (w : Wafer) : (s.commit i w).dropped = s.dropped := by simp [State.commit]
@[simp] theorem State.commit_lastSent (i : Fin 64) (w : Wafer) : (s.commit i w).lastSent = s.lastSent := by simp [State.commit]

/-! ### State.offer -/

@[simp] theorem State.offer_pending (h : Nat) (a : Alert) : (s.offer h a).pending = s.pending := by unfold State.offer; split <;> rfl
@[simp] theorem State.offer_resetPin (h : Nat) (a : Alert) : (s.offer h a).resetPin = s.resetPin := by unfold State.offer; split <;> rfl
@[simp] theorem State.offer_recipes (h : Nat) (a : Alert) : (s.offer h a).recipes = s.recipes := by unfold State.offer; split <;> rfl
@[simp] theorem State.offer_staging (h : Nat) (a : Alert) : (s.offer h a).staging = s.staging := by unfold State.offer; split <;> rfl
@[simp] theorem State.offer_lots (h : Nat) (a : Alert) : (s.offer h a).lots = s.lots := by unfold State.offer; split <;> rfl
@[simp] theorem State.offer_slots (h : Nat) (a : Alert) : (s.offer h a).slots = s.slots := by unfold State.offer; split <;> rfl
@[simp] theorem State.offer_clearList (h : Nat) (a : Alert) : (s.offer h a).clearList = s.clearList := by unfold State.offer; split <;> rfl
@[simp] theorem State.offer_directory (h : Nat) (a : Alert) : (s.offer h a).directory = s.directory := by unfold State.offer; split <;> rfl
@[simp] theorem State.offer_pinCount (h : Nat) (a : Alert) : (s.offer h a).pinCount = s.pinCount := by unfold State.offer; split <;> rfl
@[simp] theorem State.offer_closeSeq (h : Nat) (a : Alert) : (s.offer h a).closeSeq = s.closeSeq := by unfold State.offer; split <;> rfl
@[simp] theorem State.offer_testers (h : Nat) (a : Alert) : (s.offer h a).testers = s.testers := by unfold State.offer; split <;> rfl
@[simp] theorem State.offer_pointer (h : Nat) (a : Alert) : (s.offer h a).pointer = s.pointer := by unfold State.offer; split <;> rfl
@[simp] theorem State.offer_jobs (h : Nat) (a : Alert) : (s.offer h a).jobs = s.jobs := by unfold State.offer; split <;> rfl
@[simp] theorem State.offer_transfer (h : Nat) (a : Alert) : (s.offer h a).transfer = s.transfer := by unfold State.offer; split <;> rfl
@[simp] theorem State.offer_current (h : Nat) (a : Alert) : (s.offer h a).current = s.current := by unfold State.offer; split <;> rfl
@[simp] theorem State.offer_completions (h : Nat) (a : Alert) : (s.offer h a).completions = s.completions := by unfold State.offer; split <;> rfl
@[simp] theorem State.offer_stopAll (h : Nat) (a : Alert) : (s.offer h a).stopAll = s.stopAll := by unfold State.offer; split <;> rfl
@[simp] theorem State.offer_freeIndex (h : Nat) (a : Alert) : (s.offer h a).freeIndex = s.freeIndex := by unfold State.offer; split <;> rfl
@[simp] theorem State.offer_lastSent (h : Nat) (a : Alert) : (s.offer h a).lastSent = s.lastSent := by unfold State.offer; split <;> rfl

/-! ### State.offerAll -/

@[simp] theorem State.offerAll_pending (h : Nat) (l : List Alert) :
    (s.offerAll h l).pending = s.pending := by
  unfold State.offerAll
  induction l generalizing s with
  | nil => rfl
  | cons a l ih => simp [ih]
@[simp] theorem State.offerAll_resetPin (h : Nat) (l : List Alert) :
    (s.offerAll h l).resetPin = s.resetPin := by
  unfold State.offerAll
  induction l generalizing s with
  | nil => rfl
  | cons a l ih => simp [ih]
@[simp] theorem State.offerAll_recipes (h : Nat) (l : List Alert) :
    (s.offerAll h l).recipes = s.recipes := by
  unfold State.offerAll
  induction l generalizing s with
  | nil => rfl
  | cons a l ih => simp [ih]
@[simp] theorem State.offerAll_staging (h : Nat) (l : List Alert) :
    (s.offerAll h l).staging = s.staging := by
  unfold State.offerAll
  induction l generalizing s with
  | nil => rfl
  | cons a l ih => simp [ih]
@[simp] theorem State.offerAll_lots (h : Nat) (l : List Alert) :
    (s.offerAll h l).lots = s.lots := by
  unfold State.offerAll
  induction l generalizing s with
  | nil => rfl
  | cons a l ih => simp [ih]
@[simp] theorem State.offerAll_slots (h : Nat) (l : List Alert) :
    (s.offerAll h l).slots = s.slots := by
  unfold State.offerAll
  induction l generalizing s with
  | nil => rfl
  | cons a l ih => simp [ih]
@[simp] theorem State.offerAll_clearList (h : Nat) (l : List Alert) :
    (s.offerAll h l).clearList = s.clearList := by
  unfold State.offerAll
  induction l generalizing s with
  | nil => rfl
  | cons a l ih => simp [ih]
@[simp] theorem State.offerAll_directory (h : Nat) (l : List Alert) :
    (s.offerAll h l).directory = s.directory := by
  unfold State.offerAll
  induction l generalizing s with
  | nil => rfl
  | cons a l ih => simp [ih]
@[simp] theorem State.offerAll_pinCount (h : Nat) (l : List Alert) :
    (s.offerAll h l).pinCount = s.pinCount := by
  unfold State.offerAll
  induction l generalizing s with
  | nil => rfl
  | cons a l ih => simp [ih]
@[simp] theorem State.offerAll_closeSeq (h : Nat) (l : List Alert) :
    (s.offerAll h l).closeSeq = s.closeSeq := by
  unfold State.offerAll
  induction l generalizing s with
  | nil => rfl
  | cons a l ih => simp [ih]
@[simp] theorem State.offerAll_testers (h : Nat) (l : List Alert) :
    (s.offerAll h l).testers = s.testers := by
  unfold State.offerAll
  induction l generalizing s with
  | nil => rfl
  | cons a l ih => simp [ih]
@[simp] theorem State.offerAll_pointer (h : Nat) (l : List Alert) :
    (s.offerAll h l).pointer = s.pointer := by
  unfold State.offerAll
  induction l generalizing s with
  | nil => rfl
  | cons a l ih => simp [ih]
@[simp] theorem State.offerAll_jobs (h : Nat) (l : List Alert) :
    (s.offerAll h l).jobs = s.jobs := by
  unfold State.offerAll
  induction l generalizing s with
  | nil => rfl
  | cons a l ih => simp [ih]
@[simp] theorem State.offerAll_transfer (h : Nat) (l : List Alert) :
    (s.offerAll h l).transfer = s.transfer := by
  unfold State.offerAll
  induction l generalizing s with
  | nil => rfl
  | cons a l ih => simp [ih]
@[simp] theorem State.offerAll_current (h : Nat) (l : List Alert) :
    (s.offerAll h l).current = s.current := by
  unfold State.offerAll
  induction l generalizing s with
  | nil => rfl
  | cons a l ih => simp [ih]
@[simp] theorem State.offerAll_completions (h : Nat) (l : List Alert) :
    (s.offerAll h l).completions = s.completions := by
  unfold State.offerAll
  induction l generalizing s with
  | nil => rfl
  | cons a l ih => simp [ih]
@[simp] theorem State.offerAll_stopAll (h : Nat) (l : List Alert) :
    (s.offerAll h l).stopAll = s.stopAll := by
  unfold State.offerAll
  induction l generalizing s with
  | nil => rfl
  | cons a l ih => simp [ih]
@[simp] theorem State.offerAll_freeIndex (h : Nat) (l : List Alert) :
    (s.offerAll h l).freeIndex = s.freeIndex := by
  unfold State.offerAll
  induction l generalizing s with
  | nil => rfl
  | cons a l ih => simp [ih]
@[simp] theorem State.offerAll_lastSent (h : Nat) (l : List Alert) :
    (s.offerAll h l).lastSent = s.lastSent := by
  unfold State.offerAll
  induction l generalizing s with
  | nil => rfl
  | cons a l ih => simp [ih]

/-! ### State.linkError -/

@[simp] theorem State.linkError_pending (n : Fin 13) (e : LinkError) : (s.linkError n e).pending = s.pending := by unfold State.linkError; split <;> simp
@[simp] theorem State.linkError_resetPin (n : Fin 13) (e : LinkError) : (s.linkError n e).resetPin = s.resetPin := by unfold State.linkError; split <;> simp
@[simp] theorem State.linkError_recipes (n : Fin 13) (e : LinkError) : (s.linkError n e).recipes = s.recipes := by unfold State.linkError; split <;> simp
@[simp] theorem State.linkError_staging (n : Fin 13) (e : LinkError) : (s.linkError n e).staging = s.staging := by unfold State.linkError; split <;> simp
@[simp] theorem State.linkError_lots (n : Fin 13) (e : LinkError) : (s.linkError n e).lots = s.lots := by unfold State.linkError; split <;> simp
@[simp] theorem State.linkError_slots (n : Fin 13) (e : LinkError) : (s.linkError n e).slots = s.slots := by unfold State.linkError; split <;> simp
@[simp] theorem State.linkError_clearList (n : Fin 13) (e : LinkError) : (s.linkError n e).clearList = s.clearList := by unfold State.linkError; split <;> simp
@[simp] theorem State.linkError_directory (n : Fin 13) (e : LinkError) : (s.linkError n e).directory = s.directory := by unfold State.linkError; split <;> simp
@[simp] theorem State.linkError_pinCount (n : Fin 13) (e : LinkError) : (s.linkError n e).pinCount = s.pinCount := by unfold State.linkError; split <;> simp
@[simp] theorem State.linkError_closeSeq (n : Fin 13) (e : LinkError) : (s.linkError n e).closeSeq = s.closeSeq := by unfold State.linkError; split <;> simp
@[simp] theorem State.linkError_testers (n : Fin 13) (e : LinkError) : (s.linkError n e).testers = s.testers := by unfold State.linkError; split <;> simp
@[simp] theorem State.linkError_pointer (n : Fin 13) (e : LinkError) : (s.linkError n e).pointer = s.pointer := by unfold State.linkError; split <;> simp
@[simp] theorem State.linkError_jobs (n : Fin 13) (e : LinkError) : (s.linkError n e).jobs = s.jobs := by unfold State.linkError; split <;> simp
@[simp] theorem State.linkError_transfer (n : Fin 13) (e : LinkError) : (s.linkError n e).transfer = s.transfer := by unfold State.linkError; split <;> simp
@[simp] theorem State.linkError_current (n : Fin 13) (e : LinkError) : (s.linkError n e).current = s.current := by unfold State.linkError; split <;> simp
@[simp] theorem State.linkError_completions (n : Fin 13) (e : LinkError) : (s.linkError n e).completions = s.completions := by unfold State.linkError; split <;> simp
@[simp] theorem State.linkError_stopAll (n : Fin 13) (e : LinkError) : (s.linkError n e).stopAll = s.stopAll := by unfold State.linkError; split <;> simp
@[simp] theorem State.linkError_freeIndex (n : Fin 13) (e : LinkError) : (s.linkError n e).freeIndex = s.freeIndex := by unfold State.linkError; split <;> simp
@[simp] theorem State.linkError_lastSent (n : Fin 13) (e : LinkError) : (s.linkError n e).lastSent = s.lastSent := by unfold State.linkError; split <;> simp

/-! ### State.receiverError -/

@[simp] theorem State.receiverError_pending (n : Fin 13) (l : Link) (e : LinkError) : (s.receiverError n l e).pending = s.pending := by simp [State.receiverError]
@[simp] theorem State.receiverError_resetPin (n : Fin 13) (l : Link) (e : LinkError) : (s.receiverError n l e).resetPin = s.resetPin := by simp [State.receiverError]
@[simp] theorem State.receiverError_recipes (n : Fin 13) (l : Link) (e : LinkError) : (s.receiverError n l e).recipes = s.recipes := by simp [State.receiverError]
@[simp] theorem State.receiverError_staging (n : Fin 13) (l : Link) (e : LinkError) : (s.receiverError n l e).staging = s.staging := by simp [State.receiverError]
@[simp] theorem State.receiverError_lots (n : Fin 13) (l : Link) (e : LinkError) : (s.receiverError n l e).lots = s.lots := by simp [State.receiverError]
@[simp] theorem State.receiverError_slots (n : Fin 13) (l : Link) (e : LinkError) : (s.receiverError n l e).slots = s.slots := by simp [State.receiverError]
@[simp] theorem State.receiverError_clearList (n : Fin 13) (l : Link) (e : LinkError) : (s.receiverError n l e).clearList = s.clearList := by simp [State.receiverError]
@[simp] theorem State.receiverError_directory (n : Fin 13) (l : Link) (e : LinkError) : (s.receiverError n l e).directory = s.directory := by simp [State.receiverError]
@[simp] theorem State.receiverError_pinCount (n : Fin 13) (l : Link) (e : LinkError) : (s.receiverError n l e).pinCount = s.pinCount := by simp [State.receiverError]
@[simp] theorem State.receiverError_closeSeq (n : Fin 13) (l : Link) (e : LinkError) : (s.receiverError n l e).closeSeq = s.closeSeq := by simp [State.receiverError]
@[simp] theorem State.receiverError_testers (n : Fin 13) (l : Link) (e : LinkError) : (s.receiverError n l e).testers = s.testers := by simp [State.receiverError]
@[simp] theorem State.receiverError_pointer (n : Fin 13) (l : Link) (e : LinkError) : (s.receiverError n l e).pointer = s.pointer := by simp [State.receiverError]
@[simp] theorem State.receiverError_jobs (n : Fin 13) (l : Link) (e : LinkError) : (s.receiverError n l e).jobs = s.jobs := by simp [State.receiverError]
@[simp] theorem State.receiverError_transfer (n : Fin 13) (l : Link) (e : LinkError) : (s.receiverError n l e).transfer = s.transfer := by simp [State.receiverError]
@[simp] theorem State.receiverError_current (n : Fin 13) (l : Link) (e : LinkError) : (s.receiverError n l e).current = s.current := by simp [State.receiverError]
@[simp] theorem State.receiverError_completions (n : Fin 13) (l : Link) (e : LinkError) : (s.receiverError n l e).completions = s.completions := by simp [State.receiverError]
@[simp] theorem State.receiverError_stopAll (n : Fin 13) (l : Link) (e : LinkError) : (s.receiverError n l e).stopAll = s.stopAll := by simp [State.receiverError]
@[simp] theorem State.receiverError_freeIndex (n : Fin 13) (l : Link) (e : LinkError) : (s.receiverError n l e).freeIndex = s.freeIndex := by simp [State.receiverError]
@[simp] theorem State.receiverError_lastSent (n : Fin 13) (l : Link) (e : LinkError) : (s.receiverError n l e).lastSent = s.lastSent := by simp [State.receiverError]

/-! ### State.evaluateBoth -/

@[simp] theorem State.evaluateBoth_pending (i : Fin 64) : (s.evaluateBoth i).1.pending = s.pending := by unfold State.evaluateBoth; split <;> rfl
@[simp] theorem State.evaluateBoth_resetPin (i : Fin 64) : (s.evaluateBoth i).1.resetPin = s.resetPin := by unfold State.evaluateBoth; split <;> rfl
@[simp] theorem State.evaluateBoth_recipes (i : Fin 64) : (s.evaluateBoth i).1.recipes = s.recipes := by unfold State.evaluateBoth; split <;> rfl
@[simp] theorem State.evaluateBoth_staging (i : Fin 64) : (s.evaluateBoth i).1.staging = s.staging := by unfold State.evaluateBoth; split <;> rfl
@[simp] theorem State.evaluateBoth_clearList (i : Fin 64) : (s.evaluateBoth i).1.clearList = s.clearList := by unfold State.evaluateBoth; split <;> rfl
@[simp] theorem State.evaluateBoth_directory (i : Fin 64) : (s.evaluateBoth i).1.directory = s.directory := by unfold State.evaluateBoth; split <;> rfl
@[simp] theorem State.evaluateBoth_pinCount (i : Fin 64) : (s.evaluateBoth i).1.pinCount = s.pinCount := by unfold State.evaluateBoth; split <;> rfl
@[simp] theorem State.evaluateBoth_closeSeq (i : Fin 64) : (s.evaluateBoth i).1.closeSeq = s.closeSeq := by unfold State.evaluateBoth; split <;> rfl
@[simp] theorem State.evaluateBoth_testers (i : Fin 64) : (s.evaluateBoth i).1.testers = s.testers := by unfold State.evaluateBoth; split <;> rfl
@[simp] theorem State.evaluateBoth_pointer (i : Fin 64) : (s.evaluateBoth i).1.pointer = s.pointer := by unfold State.evaluateBoth; split <;> rfl
@[simp] theorem State.evaluateBoth_jobs (i : Fin 64) : (s.evaluateBoth i).1.jobs = s.jobs := by unfold State.evaluateBoth; split <;> rfl
@[simp] theorem State.evaluateBoth_transfer (i : Fin 64) : (s.evaluateBoth i).1.transfer = s.transfer := by unfold State.evaluateBoth; split <;> rfl
@[simp] theorem State.evaluateBoth_links (i : Fin 64) : (s.evaluateBoth i).1.links = s.links := by unfold State.evaluateBoth; split <;> rfl
@[simp] theorem State.evaluateBoth_current (i : Fin 64) : (s.evaluateBoth i).1.current = s.current := by unfold State.evaluateBoth; split <;> rfl
@[simp] theorem State.evaluateBoth_completions (i : Fin 64) : (s.evaluateBoth i).1.completions = s.completions := by unfold State.evaluateBoth; split <;> rfl
@[simp] theorem State.evaluateBoth_stopAll (i : Fin 64) : (s.evaluateBoth i).1.stopAll = s.stopAll := by unfold State.evaluateBoth; split <;> rfl
@[simp] theorem State.evaluateBoth_dropped (i : Fin 64) : (s.evaluateBoth i).1.dropped = s.dropped := by unfold State.evaluateBoth; split <;> rfl
@[simp] theorem State.evaluateBoth_freeIndex (i : Fin 64) : (s.evaluateBoth i).1.freeIndex = s.freeIndex := by unfold State.evaluateBoth; split <;> rfl
@[simp] theorem State.evaluateBoth_lastSent (i : Fin 64) : (s.evaluateBoth i).1.lastSent = s.lastSent := by unfold State.evaluateBoth; split <;> rfl

/-! ### State.evaluateSlot -/

@[simp] theorem State.evaluateSlot_pending (i : Fin 64) : (s.evaluateSlot i).1.pending = s.pending := rfl
@[simp] theorem State.evaluateSlot_resetPin (i : Fin 64) : (s.evaluateSlot i).1.resetPin = s.resetPin := rfl
@[simp] theorem State.evaluateSlot_recipes (i : Fin 64) : (s.evaluateSlot i).1.recipes = s.recipes := rfl
@[simp] theorem State.evaluateSlot_staging (i : Fin 64) : (s.evaluateSlot i).1.staging = s.staging := rfl
@[simp] theorem State.evaluateSlot_lots (i : Fin 64) : (s.evaluateSlot i).1.lots = s.lots := rfl
@[simp] theorem State.evaluateSlot_clearList (i : Fin 64) : (s.evaluateSlot i).1.clearList = s.clearList := rfl
@[simp] theorem State.evaluateSlot_directory (i : Fin 64) : (s.evaluateSlot i).1.directory = s.directory := rfl
@[simp] theorem State.evaluateSlot_pinCount (i : Fin 64) : (s.evaluateSlot i).1.pinCount = s.pinCount := rfl
@[simp] theorem State.evaluateSlot_closeSeq (i : Fin 64) : (s.evaluateSlot i).1.closeSeq = s.closeSeq := rfl
@[simp] theorem State.evaluateSlot_testers (i : Fin 64) : (s.evaluateSlot i).1.testers = s.testers := rfl
@[simp] theorem State.evaluateSlot_pointer (i : Fin 64) : (s.evaluateSlot i).1.pointer = s.pointer := rfl
@[simp] theorem State.evaluateSlot_jobs (i : Fin 64) : (s.evaluateSlot i).1.jobs = s.jobs := rfl
@[simp] theorem State.evaluateSlot_transfer (i : Fin 64) : (s.evaluateSlot i).1.transfer = s.transfer := rfl
@[simp] theorem State.evaluateSlot_links (i : Fin 64) : (s.evaluateSlot i).1.links = s.links := rfl
@[simp] theorem State.evaluateSlot_current (i : Fin 64) : (s.evaluateSlot i).1.current = s.current := rfl
@[simp] theorem State.evaluateSlot_completions (i : Fin 64) : (s.evaluateSlot i).1.completions = s.completions := rfl
@[simp] theorem State.evaluateSlot_stopAll (i : Fin 64) : (s.evaluateSlot i).1.stopAll = s.stopAll := rfl
@[simp] theorem State.evaluateSlot_dropped (i : Fin 64) : (s.evaluateSlot i).1.dropped = s.dropped := rfl
@[simp] theorem State.evaluateSlot_freeIndex (i : Fin 64) : (s.evaluateSlot i).1.freeIndex = s.freeIndex := rfl
@[simp] theorem State.evaluateSlot_lastSent (i : Fin 64) : (s.evaluateSlot i).1.lastSent = s.lastSent := rfl

/-! ### State.evaluateLot -/

@[simp] theorem State.evaluateLot_pending (k : Fin 16) : (s.evaluateLot k).1.pending = s.pending := rfl
@[simp] theorem State.evaluateLot_resetPin (k : Fin 16) : (s.evaluateLot k).1.resetPin = s.resetPin := rfl
@[simp] theorem State.evaluateLot_recipes (k : Fin 16) : (s.evaluateLot k).1.recipes = s.recipes := rfl
@[simp] theorem State.evaluateLot_staging (k : Fin 16) : (s.evaluateLot k).1.staging = s.staging := rfl
@[simp] theorem State.evaluateLot_slots (k : Fin 16) : (s.evaluateLot k).1.slots = s.slots := rfl
@[simp] theorem State.evaluateLot_clearList (k : Fin 16) : (s.evaluateLot k).1.clearList = s.clearList := rfl
@[simp] theorem State.evaluateLot_directory (k : Fin 16) : (s.evaluateLot k).1.directory = s.directory := rfl
@[simp] theorem State.evaluateLot_pinCount (k : Fin 16) : (s.evaluateLot k).1.pinCount = s.pinCount := rfl
@[simp] theorem State.evaluateLot_closeSeq (k : Fin 16) : (s.evaluateLot k).1.closeSeq = s.closeSeq := rfl
@[simp] theorem State.evaluateLot_testers (k : Fin 16) : (s.evaluateLot k).1.testers = s.testers := rfl
@[simp] theorem State.evaluateLot_pointer (k : Fin 16) : (s.evaluateLot k).1.pointer = s.pointer := rfl
@[simp] theorem State.evaluateLot_jobs (k : Fin 16) : (s.evaluateLot k).1.jobs = s.jobs := rfl
@[simp] theorem State.evaluateLot_transfer (k : Fin 16) : (s.evaluateLot k).1.transfer = s.transfer := rfl
@[simp] theorem State.evaluateLot_links (k : Fin 16) : (s.evaluateLot k).1.links = s.links := rfl
@[simp] theorem State.evaluateLot_current (k : Fin 16) : (s.evaluateLot k).1.current = s.current := rfl
@[simp] theorem State.evaluateLot_completions (k : Fin 16) : (s.evaluateLot k).1.completions = s.completions := rfl
@[simp] theorem State.evaluateLot_stopAll (k : Fin 16) : (s.evaluateLot k).1.stopAll = s.stopAll := rfl
@[simp] theorem State.evaluateLot_dropped (k : Fin 16) : (s.evaluateLot k).1.dropped = s.dropped := rfl
@[simp] theorem State.evaluateLot_freeIndex (k : Fin 16) : (s.evaluateLot k).1.freeIndex = s.freeIndex := rfl
@[simp] theorem State.evaluateLot_lastSent (k : Fin 16) : (s.evaluateLot k).1.lastSent = s.lastSent := rfl

/-! ### State.settle -/

@[simp] theorem State.settle_pending (i : Fin 64) (w : Wafer) : (s.settle i w).1.pending = s.pending := by unfold State.settle; split <;> simp
@[simp] theorem State.settle_resetPin (i : Fin 64) (w : Wafer) : (s.settle i w).1.resetPin = s.resetPin := by unfold State.settle; split <;> simp
@[simp] theorem State.settle_recipes (i : Fin 64) (w : Wafer) : (s.settle i w).1.recipes = s.recipes := by unfold State.settle; split <;> simp
@[simp] theorem State.settle_staging (i : Fin 64) (w : Wafer) : (s.settle i w).1.staging = s.staging := by unfold State.settle; split <;> simp
@[simp] theorem State.settle_clearList (i : Fin 64) (w : Wafer) : (s.settle i w).1.clearList = s.clearList := by unfold State.settle; split <;> simp
@[simp] theorem State.settle_directory (i : Fin 64) (w : Wafer) : (s.settle i w).1.directory = s.directory := by unfold State.settle; split <;> simp
@[simp] theorem State.settle_pinCount (i : Fin 64) (w : Wafer) : (s.settle i w).1.pinCount = s.pinCount := by unfold State.settle; split <;> simp
@[simp] theorem State.settle_closeSeq (i : Fin 64) (w : Wafer) : (s.settle i w).1.closeSeq = s.closeSeq := by unfold State.settle; split <;> simp
@[simp] theorem State.settle_testers (i : Fin 64) (w : Wafer) : (s.settle i w).1.testers = s.testers := by unfold State.settle; split <;> simp
@[simp] theorem State.settle_pointer (i : Fin 64) (w : Wafer) : (s.settle i w).1.pointer = s.pointer := by unfold State.settle; split <;> simp
@[simp] theorem State.settle_transfer (i : Fin 64) (w : Wafer) : (s.settle i w).1.transfer = s.transfer := by unfold State.settle; split <;> simp
@[simp] theorem State.settle_links (i : Fin 64) (w : Wafer) : (s.settle i w).1.links = s.links := by unfold State.settle; split <;> simp
@[simp] theorem State.settle_current (i : Fin 64) (w : Wafer) : (s.settle i w).1.current = s.current := by unfold State.settle; split <;> simp
@[simp] theorem State.settle_completions (i : Fin 64) (w : Wafer) : (s.settle i w).1.completions = s.completions := by unfold State.settle; split <;> simp
@[simp] theorem State.settle_stopAll (i : Fin 64) (w : Wafer) : (s.settle i w).1.stopAll = s.stopAll := by unfold State.settle; split <;> simp
@[simp] theorem State.settle_dropped (i : Fin 64) (w : Wafer) : (s.settle i w).1.dropped = s.dropped := by unfold State.settle; split <;> simp
@[simp] theorem State.settle_lastSent (i : Fin 64) (w : Wafer) : (s.settle i w).1.lastSent = s.lastSent := by unfold State.settle; split <;> simp

end Sys2Proof.Machine
end

