-- ==== Sys2Proof/Laws/Memory.lean ====
section
/-! SUPPORT. The laws of a slot's cell records: a read after a write gives the cell written, a write leaves every other
index alone, every operation keeps the canonical form, and the bulk writes of R27 and R150 read as their rules say. -/

namespace Sys2Proof.Machine

/-! ### The canonical form -/

theorem Memory.wfFrom_cons {lo j : Nat} {c : Cell} {m : Memory} :
    Memory.wfFrom lo ((j, c) :: m) = true ↔ lo ≤ j ∧ c ≠ Cell.blank ∧ Memory.wfFrom (j + 1) m = true := by
  simp [Memory.wfFrom, and_assoc]

theorem Memory.wfFrom_mono {lo lo' : Nat} {m : Memory} (h : lo' ≤ lo) (hm : Memory.wfFrom lo m = true) :
    Memory.wfFrom lo' m = true := by
  cases m with
  | nil => rfl
  | cons e m =>
    rw [Memory.wfFrom_cons] at hm ⊢
    exact ⟨by omega, hm.2⟩

/-- Below its lowest index a canonical memory lists nothing. -/
theorem Memory.read_below {lo i : Nat} {m : Memory} (hm : Memory.wfFrom lo m = true) (h : i < lo) :
    Memory.read i m = Cell.blank := by
  induction m generalizing lo with
  | nil => rfl
  | cons e m ih =>
    obtain ⟨j, c⟩ := e
    rw [Memory.wfFrom_cons] at hm
    have hij : i ≠ j := by omega
    simp only [Memory.read, hij, if_false]
    exact ih hm.2.2 (by omega)

/-- A write keeps the canonical form from any index not above the one written. -/
theorem Memory.wfFrom_write {lo i : Nat} {c : Cell} {m : Memory} (hlo : lo ≤ i) (hm : Memory.wfFrom lo m = true) :
    Memory.wfFrom lo (Memory.write i c m) = true := by
  induction m generalizing lo with
  | nil =>
    simp only [Memory.write]
    split
    · rfl
    · rename_i h
      rw [Memory.wfFrom_cons]
      exact ⟨hlo, h, rfl⟩
  | cons e m ih =>
    obtain ⟨j, d⟩ := e
    rw [Memory.wfFrom_cons] at hm
    simp only [Memory.write]
    split
    · split
      · exact Memory.wfFrom_cons.2 hm
      · rename_i hij hc
        exact Memory.wfFrom_cons.2 ⟨hlo, hc, Memory.wfFrom_cons.2 ⟨by omega, hm.2⟩⟩
    · split
      · rename_i hij
        subst hij
        split
        · exact Memory.wfFrom_mono (by omega) hm.2.2
        · rename_i hc
          exact Memory.wfFrom_cons.2 ⟨hlo, hc, hm.2.2⟩
      · exact Memory.wfFrom_cons.2 ⟨hm.1, hm.2.1, ih (by omega) hm.2.2⟩

/-- A write keeps the canonical form. -/
theorem Memory.wf_write {i : Nat} {c : Cell} {m : Memory} (hm : m.wf = true) : (Memory.write i c m).wf = true :=
  Memory.wfFrom_write (Nat.zero_le i) hm

/-! ### Reading after writing -/

/-- A read after a write at the same index gives the cell written. -/
theorem Memory.read_write_same {lo i : Nat} {c : Cell} {m : Memory} (hm : Memory.wfFrom lo m = true) :
    Memory.read i (Memory.write i c m) = c := by
  induction m generalizing lo with
  | nil =>
    simp only [Memory.write]
    split <;> simp_all [Memory.read]
  | cons e m ih =>
    obtain ⟨j, d⟩ := e
    have hm' := Memory.wfFrom_cons.1 hm
    simp only [Memory.write]
    split
    · rename_i hij
      split
      · rename_i hc
        rw [hc]
        exact Memory.read_below (lo := j) (Memory.wfFrom_cons.2 ⟨le_refl j, hm'.2⟩) hij
      · simp [Memory.read]
    · split
      · rename_i hij
        split
        · rename_i hc
          rw [hc, hij]
          exact Memory.read_below hm'.2.2 (by omega)
        · simp [Memory.read]
      · rename_i hij
        simp only [Memory.read, hij, if_false]
        exact ih hm'.2.2

/-- A write leaves every other index alone. -/
theorem Memory.read_write_ne {i k : Nat} {c : Cell} {m : Memory} (h : k ≠ i) :
    Memory.read k (Memory.write i c m) = Memory.read k m := by
  induction m with
  | nil =>
    simp only [Memory.write]
    split
    · rfl
    · simp [Memory.read, h]
  | cons e m ih =>
    obtain ⟨j, d⟩ := e
    simp only [Memory.write]
    split
    · split
      · rfl
      · simp [Memory.read, h]
    · split
      · rename_i hij
        subst hij
        split <;> simp [Memory.read, h]
      · simp only [Memory.read, ih]

/-- What one write does to every read. -/
theorem Memory.read_write {i k : Nat} {c : Cell} {m : Memory} (hm : m.wf = true) :
    Memory.read k (Memory.write i c m) = if k = i then c else Memory.read k m := by
  split
  · rename_i h
    rw [h]
    exact Memory.read_write_same hm
  · rename_i h
    exact Memory.read_write_ne h

/-! ### The bulk writes of R27 and R150 -/

/-- A list of excluded cells at ascending indices is canonical. -/
theorem Memory.wfFrom_excluded {lo : Nat} {l : List Nat} (hs : l.Pairwise (· < ·)) (hlo : ∀ i ∈ l, lo ≤ i) :
    Memory.wfFrom lo (l.map fun i => (i, Cell.excludedCell)) = true := by
  induction l generalizing lo with
  | nil => rfl
  | cons a l ih =>
    rw [List.pairwise_cons] at hs
    rw [List.map_cons, Memory.wfFrom_cons]
    exact ⟨hlo a (by simp), by decide, ih hs.2 fun i hi => hs.1 i hi⟩

/-- Initialization leaves a canonical memory (R27). -/
theorem Memory.wf_initial (g : Geometry) : (Memory.initial g).wf = true :=
  Memory.wfFrom_excluded (List.Pairwise.sublist List.filter_sublist List.pairwise_lt_range) fun _ _ => Nat.zero_le _

/-- A list of excluded cells reads EXCLUDED exactly at its indices. -/
theorem Memory.read_excluded (l : List Nat) (k : Nat) :
    Memory.read k (l.map fun i => (i, Cell.excludedCell)) = if k ∈ l then Cell.excludedCell else Cell.blank := by
  induction l with
  | nil => rfl
  | cons a l ih =>
    simp only [List.map_cons, Memory.read, List.mem_cons]
    by_cases h : k = a
    · simp [h]
    · simp [h, ih]

/-- R27, R28: the cell of every index after initialization. -/
theorem Memory.read_initial (g : Geometry) (k : Nat) :
    Memory.read k (Memory.initial g) =
      if k < g.rows * g.cols ∧ excludedAtOpen g k = true then Cell.excludedCell else Cell.blank := by
  rw [Memory.initial, Memory.read_excluded]
  simp [openExclusions]

/-- A released cell is blank exactly when the cell was (R150). -/
theorem releaseCell_eq_blank {c : Cell} : releaseCell c = Cell.blank ↔ c = Cell.blank := by
  obtain ⟨st, b, a, src⟩ := c
  cases st <;> simp [releaseCell, Cell.blank]

/-- Release keeps the canonical form (R150). -/
theorem Memory.wfFrom_release {lo size : Nat} {m : Memory} (hm : Memory.wfFrom lo m = true) :
    Memory.wfFrom lo (m.release size) = true := by
  induction m generalizing lo with
  | nil => rfl
  | cons e m ih =>
    obtain ⟨j, c⟩ := e
    rw [Memory.wfFrom_cons] at hm
    have ht := ih hm.2.2
    simp only [Memory.release, List.map_cons] at ht ⊢
    split
    · exact Memory.wfFrom_cons.2 ⟨hm.1, fun h => hm.2.1 (releaseCell_eq_blank.1 h), ht⟩
    · exact Memory.wfFrom_cons.2 ⟨hm.1, hm.2.1, ht⟩

/-- Release keeps the canonical form (R150). -/
theorem Memory.wf_release {size : Nat} {m : Memory} (hm : m.wf = true) : (m.release size).wf = true :=
  Memory.wfFrom_release hm

/-- R150: the cell of every index after a release: those of the map are released, the others stay. -/
theorem Memory.read_release (size k : Nat) (m : Memory) :
    Memory.read k (m.release size) = if k < size then releaseCell (Memory.read k m) else Memory.read k m := by
  induction m with
  | nil => simp [Memory.release, Memory.read, releaseCell, Cell.blank]
  | cons e m ih =>
    obtain ⟨j, c⟩ := e
    simp only [Memory.release, List.map_cons] at ih ⊢
    by_cases hj : j < size
    · simp only [hj, if_true, Memory.read]
      by_cases hk : k = j
      · simp [hk, hj]
      · simp [hk, ih]
    · simp only [hj, if_false, Memory.read]
      by_cases hk : k = j
      · simp [hk, hj]
      · simp [hk, ih]

/-- At reset every slot's cell records are canonical. -/
theorem reset_memory_wf (i : Nat) (h : i < 64) : State.reset.slots[i].cells.wf = true := by
  simp [State.reset, Slot.empty, Memory.wf, Memory.wfFrom]

end Sys2Proof.Machine
end

