-- ==== Sys2Proof/Laws/Ops.lean ====
section
/-! SUPPORT. For each shared operation one lemma that says everything it can do, cited in place of unfolding it. -/

namespace Sys2Proof.Machine

open Sys2Proof.Safety

/-! ### How a command is taken -/

/-- An engine item for a CL command: the item when the engine takes the command next, else nothing. -/
theorem engineCommand_cases {c : Instr} {work : State → Item} {s t : State} (h : engineCommand c work s = .next t) :
    (EngineTakes c s ∧ t = (work s).finish) ∨ (¬ EngineTakes c s ∧ t = s) := by
  unfold engineCommand at h
  split at h
  · rename_i hc
    exact .inl ⟨hc, by simpa using h.symm⟩
  · rename_i hc
    exact .inr ⟨hc, by simpa using h.symm⟩

theorem engineCommand_taken {c : Instr} {work : State → Item} {s : State} (h : EngineTakes c s) :
    engineCommand c work s = .next (work s).finish := if_pos h

theorem engineCommand_untaken {c : Instr} {work : State → Item} {s : State} (h : ¬ EngineTakes c s) :
    engineCommand c work s = .next s := if_neg h

/-- A command the interpreter serves: its service when it can be served, else nothing. -/
theorem serveCommand_cases {c : Instr} {work : State → State × Message} {s t : State}
    (h : serveCommand c work s = .next t) :
    (InterpreterServes c s ∧ t = served (work s).2 (work s).1) ∨ (¬ InterpreterServes c s ∧ t = s) := by
  unfold serveCommand at h
  split at h
  · rename_i hc
    exact .inl ⟨hc, by simpa [served] using h.symm⟩
  · rename_i hc
    exact .inr ⟨hc, by simpa using h.symm⟩

theorem serveCommand_taken {c : Instr} {work : State → State × Message} {s : State} (h : InterpreterServes c s) :
    serveCommand c work s = .next (served (work s).2 (work s).1) := if_pos h

theorem serveCommand_untaken {c : Instr} {work : State → State × Message} {s : State} (h : ¬ InterpreterServes c s) :
    serveCommand c work s = .next s := if_neg h

/-- The frame the engine takes next from a tester link is the head of its holding queue. -/
theorem nextFrame_eq_some {s : State} {n : Fin 12} {body : List Byte} :
    s.nextFrame n = some body ↔ EngineTakesFrame n body s := by
  unfold State.nextFrame EngineTakesFrame
  split
  · rename_i h
    simp [h.1, h.2]
  · rename_i h
    simp only [reduceCtorEq, false_iff, not_and]
    exact fun h1 h2 => absurd ⟨h1, h2⟩ h

/-- An engine item for a tester frame: the item when the engine takes the report next, else nothing. -/
theorem engineReport_cases {n : Fin 12} {c : Instr} {work : State → Report} {s t : State}
    (h : engineReport n c work s = .next t) :
    (EngineTakesReport n c s ∧
      t = ((work (s.takeFrame n)).state.offerAll 0 (work (s.takeFrame n)).alerts).place (tl n)
        (work (s.takeFrame n)).answer) ∨ (¬ EngineTakesReport n c s ∧ t = s) := by
  have key : (s.nextFrame n).map (decodeReport n) = some (.command c) ↔ EngineTakesReport n c s := by
    simp [EngineTakesReport, Option.map_eq_some_iff, nextFrame_eq_some]
  unfold engineReport at h
  split at h
  · rename_i hc
    exact .inl ⟨key.1 hc, by simpa using h.symm⟩
  · rename_i hc
    exact .inr ⟨fun k => hc (key.2 k), by simpa using h.symm⟩

theorem engineReport_taken {n : Fin 12} {c : Instr} {work : State → Report} {s : State}
    (h : EngineTakesReport n c s) :
    engineReport n c work s = .next (((work (s.takeFrame n)).state.offerAll 0 (work (s.takeFrame n)).alerts).place
      (tl n) (work (s.takeFrame n)).answer) := by
  obtain ⟨body, hb, hd⟩ := h
  exact if_pos (by simp [nextFrame_eq_some.2 hb, hd])

/-- A refused item answers the refusal and changes nothing else. -/
theorem Item.finish_refuse (c : Instr) (tag : Byte) (status : Status) (s : State) :
    (Item.refuse c tag status s).finish = answered (.rsp tag c.code status []) s := by
  simp [Item.refuse, Item.finish, State.offerAll, answered, State.hand, State.place, State.setLink]

/-- An item answered RSP OK with no alert and no DON. -/
theorem Item.finish_ok (c : Instr) (tag : Byte) (fields : List Byte) (s : State) :
    (Item.ok c tag fields s).finish = answered (.rsp tag c.code .ok fields) s := by
  simp [Item.ok, Item.finish, State.offerAll, answered, State.hand, State.place, State.setLink]

/-- An item answered ACC with no alert and no DON. -/
theorem Item.finish_accept (c : Instr) (tag : Byte) (fields : List Byte) (s : State) :
    (Item.accept c tag fields s).finish = answered (.acc tag c.code fields) s := by
  simp [Item.accept, Item.finish, State.offerAll, answered, State.hand, State.place, State.setLink]

/-- An item with alerts and no DON. -/
theorem Item.finish_alerts (s : State) (alerts : List Alert) (m : Message) :
    (Item.mk s alerts m []).finish = answered m (s.offerAll 1 alerts) := by
  simp [Item.finish, answered, State.hand, State.place, State.setLink]

/-! ### Alerts and link errors -/

/-- An offered alert is placed or dropped (R187). -/
theorem State.offer_cases (s : State) (held : Nat) (a : Alert) :
    (8 ≤ s.room cl held ∧ s.offer held a = s.place cl (.alr a)) ∨
    (s.room cl held < 8 ∧ s.offer held a = { s with dropped := true }) := by
  unfold State.offer
  split
  · rename_i h
    exact .inl ⟨h, rfl⟩
  · rename_i h
    exact .inr ⟨by omega, rfl⟩

/-- Offered alerts change CL's link and the dropped-alert mark, and nothing else. -/
theorem State.offerAll_frame (s : State) (held : Nat) (alerts : List Alert) :
    ∃ (m : List Alert) (d : Bool), (∀ a ∈ m, a ∈ alerts) ∧
      s.offerAll held alerts = { (m.foldl (fun t a => t.place cl (.alr a)) s) with dropped := d } := by
  induction alerts generalizing s with
  | nil => exact ⟨[], s.dropped, by simp, rfl⟩
  | cons a rest ih =>
    rcases s.offer_cases held a with ⟨_, h⟩ | ⟨_, h⟩
    · obtain ⟨m, d, hm, he⟩ := ih (s.place cl (.alr a))
      refine ⟨a :: m, d, ?_, ?_⟩
      · simp only [List.mem_cons]
        rintro b (rfl | hb)
        · exact .inl rfl
        · exact .inr (hm b hb)
      · simp only [State.offerAll, List.foldl_cons, h] at he ⊢
        exact he
    · obtain ⟨m, d, hm, he⟩ := ih { s with dropped := true }
      refine ⟨m, d, fun b hb => List.mem_cons_of_mem _ (hm b hb), ?_⟩
      simp only [State.offerAll, List.foldl_cons, h] at he ⊢
      rw [he]
      clear he hm ih h
      have key : ∀ (l : List Alert) (t : State),
          { (l.foldl (fun t a => t.place cl (.alr a)) { t with dropped := true }) with dropped := d } =
          { (l.foldl (fun t a => t.place cl (.alr a)) t) with dropped := d } := by
        intro l
        induction l with
        | nil => intro t; rfl
        | cons b l ih => intro t; exact ih (t.place cl (.alr b))
      exact key m s

/-- An error event: the link's error and counter, and an alert when the last error was NONE (R174, R175). -/
theorem State.linkError_cases (s : State) (n : Fin 13) (e : LinkError) :
    (s.links[n].lastError = .none ∧ s.linkError n e = (s.setLink n (s.links[n].fail e)).offer 0 (.linkError n e)) ∨
    (s.links[n].lastError ≠ .none ∧ s.linkError n e = s.setLink n (s.links[n].fail e)) := by
  unfold State.linkError
  split
  · rename_i h
    exact .inl ⟨h, rfl⟩
  · rename_i h
    exact .inr ⟨h, rfl⟩

/-! ### The arbiter -/

/-- The source taken next has work, and no source before it in circular order from the pointer has (R63). -/
theorem State.nextSource_eq_some {s : State} {n : Fin 13} (h : s.nextSource = some n) : s.hasWork n = true :=
  List.find?_some h

/-! ### Changes of a slot and its lot -/

/-- The workspace written back: the slot, and the totals of the lot its identity names. -/
theorem State.putWafer_cases (s : State) (i : Fin 64) (w : Wafer) :
    (w.slot.identity = none ∧ s.putWafer i w = s.setSlot i w.slot) ∨
    ∃ d, w.slot.identity = some d ∧
      s.putWafer i w = (s.setSlot i w.slot).setLot d.lot { s.lots[d.lot] with totals := w.totals } := by
  unfold State.putWafer
  cases h : w.slot.identity with
  | none => exact .inl ⟨rfl, rfl⟩
  | some d => exact .inr ⟨d, rfl, rfl⟩

/-- A member entry is changed in the lot its identity names (R120). -/
theorem State.setMember_cases (s : State) (id : Option Identity) (f : Member → Member) :
    (id = none ∧ s.setMember id f = s) ∨
    ∃ d, id = some d ∧ s.setMember id f = s.setLot d.lot
      { s.lots[d.lot] with members := s.lots[d.lot].members.map fun m => if m.wafer = d.wafer then f m else m } := by
  cases id with
  | none => exact .inl ⟨rfl, rfl⟩
  | some d => exact .inr ⟨d, rfl, rfl⟩

/-- A slot's tallies are folded into the carry of the lot its identity names (R122). -/
theorem State.foldCarry_cases (s : State) (i : Fin 64) :
    (s.slots[i].identity = none ∧ s.foldCarry i = s) ∨
    ∃ d, s.slots[i].identity = some d ∧ s.foldCarry i = s.setLot d.lot
      { s.lots[d.lot] with carry := s.lots[d.lot].carry.plus s.slots[i].tallies } := by
  unfold State.foldCarry
  cases h : s.slots[i].identity with
  | none => exact .inl ⟨rfl, rfl⟩
  | some d => exact .inr ⟨d, rfl, rfl⟩

/-- Before an item writes a slot's map, only the running DIGEST job on that slot moves on, within its range (R140). -/
theorem State.readAhead_cases (s : State) (i : Fin 64) :
    s.readAhead i = s ∨
    ∃ j rest, s.jobs = j :: rest ∧ j.kind = .digest ∧ j.slot = i ∧
      s.readAhead i = { s with
        jobs := j.readTo s.slots[i].cells (min (j.next + Config.cellsReadAhead s.freeIndex) j.stop) :: rest
        freeIndex := s.freeIndex + 1 } := by
  unfold State.readAhead
  split
  · rename_i j rest hj
    split
    · rename_i hc
      exact .inr ⟨j, rest, hj, hc.1, hc.2, by simp⟩
    · exact .inl rfl
  · exact .inl rfl

/-- An evaluation of a slot changes that slot's limit states only (R102). -/
theorem State.evaluateSlot_fst (s : State) (i : Fin 64) :
    (s.evaluateSlot i).1 = s.setSlot i { s.slots[i] with
      limits := evaluate (s.recipeOfSlot i) (s.recipeOfSlot i).scalars.waferFloor s.slots[i].tallies
        s.slots[i].limits } := rfl

/-- An evaluation of a lot changes that lot's limit states only (R127). -/
theorem State.evaluateLot_fst (s : State) (k : Fin 16) :
    (s.evaluateLot k).1 = s.setLot k { s.lots[k] with
      limits := evaluate (s.recipeOfLot k) (s.recipeOfLot k).scalars.lotFloor s.lots[k].totals s.lots[k].limits } :=
  rfl

/-- A retirement is a fold, a change of the member entry, and entry to CLEARING (R32). -/
theorem State.retire_eq (s : State) (i : Fin 64) :
    s.retire i = ((s.foldCarry i).setMember s.slots[i].identity fun m =>
      { m with slot := none, retired := true }).enterClearing i := rfl

/-- Each slot after a retirement: the retired one is an empty CLEARING record with its old cells, the others stay. -/
theorem State.retire_get (s : State) (i : Fin 64) (j : Nat) (h : j < 64) :
    (s.retire i).slots[j] = if i.val = j then Slot.empty .clearing s.slots[i].cells else s.slots[j] := by
  simp [State.retire_eq]

end Sys2Proof.Machine
end

