-- ==== Sys2Proof/Tests/Slice0.lean ====
section
/-! SUPPORT. Tests on small states: the ill-formed terms that `Instr.wf` refuses, frame bodies written out from R194,
the spec's worked examples one event at a time, and for every statement with hypotheses a state and operands that meet
them. -/

namespace Sys2Proof.Tests

set_option Elab.async false

open Sys2Proof.Machine Sys2Proof.Safety

/-! ### Small states -/

/-- Recipe 3 as the worked example of spec/01 stores it. -/
def recipe3 : Recipe where
  state := .valid
  loadCount := 1
  scalars := ⟨.best, 3, 9300, 9400, 500, 50, 2, .pause⟩
  entries := Vector.ofFn fun b =>
    if b = 1 then ⟨true, .pass, 1, 0, 0, false⟩ else if b = 2 then ⟨true, .pass, 1, 1, 0, false⟩
    else if b = 7 then ⟨true, .fail, 5, 8, 250, true⟩ else if b = 12 then ⟨true, .fail, 6, 10, 0, false⟩
    else if b = 40 then ⟨true, .fail, 8, 15, 10000, true⟩ else BinEntry.reset

/-- "LOTC-0007   " -/
def lotC : LotId := [0x4C, 0x4F, 0x54, 0x43, 0x2D, 0x30, 0x30, 0x30, 0x37, 0x20, 0x20, 0x20]

/-- "LOTD-0002   " -/
def lotD : LotId := [0x4C, 0x4F, 0x54, 0x44, 0x2D, 0x30, 0x30, 0x30, 0x32, 0x20, 0x20, 0x20]

/-- "LOTE-0003   " -/
def lotE : LotId := [0x4C, 0x4F, 0x54, 0x45, 0x2D, 0x30, 0x30, 0x30, 0x33, 0x20, 0x20, 0x20]

/-- Tallies with a few counts. -/
def tallies (tested passed : Nat) (counts : List (Fin 64 × Nat)) : Tallies :=
  ⟨tested, passed, counts.foldl (fun v p => v.set p.1 p.2) (Vector.replicate 64 0)⟩

/-- A slot that holds a map of lot entry 6 on recipe 3. -/
def held (st : SlotState) (wafer rows cols : Nat) : Slot :=
  { Slot.empty st [] with
    identity := some ⟨6, wafer⟩, recipe := some 3, geometry := some ⟨rows, cols, false⟩, mapSize := rows * cols }

/-- A part at work: recipe 3; lot entry 6 OPEN with wafer 1 OPEN in slot 0, wafer 2 CLOSED on HOLD in slot 2, wafer 3
EXPORTING in slot 63 and wafer 4 retired; lot entry 7 CLOSED on HOLD with a retired member; slot 1 FREE and every other
slot CLEARING; TL5 alias 1 bound to slot 0 with its alarm set; TL5 RUNNING. -/
def part : State :=
  { State.reset with
    recipes := State.reset.recipes.set 3 recipe3
    lots := (State.reset.lots.set 6 { Lot.free with
        state := .opened, ident := some lotC, recipe := some 3
        members := [⟨1, some 0, false, false, none, .none⟩, ⟨2, some 2, false, false, some 9393, .hold⟩,
          ⟨3, some 63, false, false, some 9375, .accept⟩, ⟨4, none, true, false, some 9500, .accept⟩] }).set 7
      { Lot.free with
        state := .closed, ident := some lotD, recipe := some 3, disposition := .hold
        members := [⟨9, none, true, false, some 9500, .hold⟩] }
    slots := (((State.reset.slots.set 0 { held .opened 1 2 3 with
          cells := [(0, ⟨.tested, 7, 1, none⟩), (1, ⟨.forced, 1, 0, none⟩), (2, Cell.excludedCell)], mapSize := 5
          tallies := tallies 2 1 [(1, 1), (7, 1)] }).set 1 (Slot.empty .free [])).set 2
        { held .closed 2 2 3 with disposition := .hold, closeSeq := some 58, closeDigest := some 0x1D0F }).set 63
      { held .exporting 3 1 65 with busy := some .transfer }
    clearList := (List.finRange 64).filter fun i => i != 0 && i != 1 && i != 2 && i != 63
    directory := [⟨6, 1, 0⟩, ⟨6, 2, 2⟩, ⟨6, 3, 63⟩]
    transfer := some ⟨63, 0x53, 2, 0, 0xFFFF, false, .chunks⟩
    testers := State.reset.testers.set 5 { State.reset.testers[5] with
      bindings := State.reset.testers[5].bindings.set 0 ⟨some 0, some 7, 2, true⟩
      sites := State.reset.testers[5].sites.set 0 ⟨true, 0, 0⟩ }
    links := State.reset.links.set 5 { Link.testerReset with state := .running, receiver := .hunt false } }

/-- The part with a current CL command and the engine's pointer at the interpreter. -/
def asked (c : Instr) (s : State := part) : State := { s with current := some c, pointer := 12 }

/-- The part with a frame of TL5 held and the engine's pointer at TL5. -/
def reporting (body : List Byte) (s : State := part) : State :=
  { s.setLink 5 { s.links[5] with holding := [body] } with pointer := 5 }

/-- The state a command leaves. -/
def after (c : Instr) (s : State) : State :=
  match exec c s with
  | .next t => t
  | .fault _ => s
  | .refused _ => s

/-- A part with a current command that the engine serves: the engine takes it. -/
theorem asked_takes (c : Instr) (h : c.selfServed = false) : EngineTakes c (asked c) := by
  refine ⟨rfl, rfl, ?_⟩
  have hw : (asked c).hasWork 12 = true := by
    simp only [State.hasWork, asked, h]; rfl
  have hl : ((List.finRange 13).map fun k => (asked c).pointer + k) =
      12 :: ((List.finRange 13).tail.map fun k => (asked c).pointer + k) := rfl
  rw [State.nextSource, hl, List.find?_cons_of_pos hw]; rfl

/-- The interpreter serves a current command at once. -/
theorem asked_serves (c : Instr) : InterpreterServes c (asked c) := ⟨rfl, rfl, (by decide : 1 ≤ part.room cl 0)⟩

/-! ### Well-formedness: each check refuses an ill-formed term -/

theorem test_wf_tdr_too_long : (Instr.tdr 0 1 0 0 32 (List.replicate 194 0)).wf = false := by decide +kernel
theorem test_wf_ldrc_part1_entries : (Instr.ldrcPart1 0 0 1 ⟨0, 0, 0, 0, 0, 0, 0, 0⟩ []).wf = false := by decide
theorem test_wf_ldrc_part1_part : (Instr.ldrcPart1 0 0 2 ⟨0, 0, 0, 0, 0, 0, 0, 0⟩
    (List.replicate 31 ⟨0, 0, 0, 0⟩)).wf = false := by decide
theorem test_wf_ldrc_part2_entries : (Instr.ldrcPart2 0 0 2 (List.replicate 31 ⟨0, 0, 0, 0⟩)).wf = false := by decide
theorem test_wf_ldrc_part2_part : (Instr.ldrcPart2 0 0 1 (List.replicate 32 ⟨0, 0, 0, 0⟩)).wf = false := by decide
theorem test_wf_identifiers :
    (Instr.oplt 0 [0x41] 3).wf = false ∧ (Instr.cllt 0 []).wf = false ∧ (Instr.rtlt 0 []).wf = false ∧
    (Instr.lsum 0 [] 1 1 0).wf = false ∧ (Instr.opwf 0 [] 1 4 4 0 0).wf = false ∧ (Instr.fndw 0 [] 1).wf = false ∧
    (Instr.rlhdLot 0 0 []).wf = false ∧ (Instr.rlhdWafer 0 1 0 []).wf = false := by decide
theorem test_wf_stmp_count : (Instr.stmp 0 0 2 [⟨0, 1, 0, 0⟩]).wf = false := by decide
theorem test_wf_stmp_too_long : (Instr.stmp 0 0 50 (List.replicate 50 ⟨0, 0, 0, 0⟩)).wf = false := by decide +kernel
theorem test_wf_rlhd_kind : (Instr.rlhdWafer 0 2 0 lotC).wf = false ∧ (Instr.rlhdWafer 0 1 0 lotC).wf = true := by
  decide
theorem test_wf_lctl_action : (Instr.lctlStart 0 0 3 0).wf = false ∧ (Instr.lctlStart 0 0 6 0).wf = true := by decide

/-! ### Frame bodies written out from R194 -/

theorem test_decode_reports :
    decodeReport 4 [0x01, 1, 0xFF, 0xFE, 0x00, 0x0A, 1, 0, 7] = .command (.tdr 4 1 0xFFFE 0x000A 1 [0, 7]) ∧
    decodeReport 4 [0x02, 2, 9, 8] = .command (.clq 4 2 9 8) ∧
    decodeReport 4 [0x03, 1, 0x01, 0x00, 16] = .command (.rtp 4 1 0x0100 16) ∧
    decodeReport 4 [0x10, 0] = .unknownType ∧ decodeReport 4 [0x02, 2, 9] = .wrongLength := by decide
theorem test_decode_open_wafer : decodeCommand ([0x16, 0x30] ++ lotD ++ [3, 0x00, 0x04, 0x01, 0x00, 1, 0]) =
    .command (.opwf 0x30 lotD 3 4 256 1 0) := by decide
theorem test_decode_commands :
    decodeCommand [0x1F, 9, 63, 1, 2, 64] = .command (.rdcl 9 63 1 2 64) ∧
    decodeCommand [0x28, 9, 12, 0x12, 0x34, 0xFF, 0xFF] = .command (.dgst 9 12 0x1234 0xFFFF) ∧
    decodeCommand [0x29, 9, 5, 1, 0] = .command (.bind 9 5 1 0) ∧
    decodeCommand [0x2C, 9, 5, 1, 31, 1, 0xF1, 15] = .command (.stmp 9 5 1 [⟨31, 1, 0xF1, 15⟩]) ∧
    decodeCommand ([0x2D, 9, 2, 0] ++ lotC) = .command (.rlhdLot 9 0 lotC) ∧
    decodeCommand [0x2E, 9, 11, 5, 12] = .command (.lctlSetRate 9 11 12) ∧
    decodeCommand [0x27, 9] = .command (.clra 9) ∧
    decodeCommand [0x31, 9] = .unknownType ∧ decodeCommand [0x27, 9, 0] = .wrongLength := by decide
theorem test_decode_ldrc_lengths :
    decodeCommand ([0x10, 9, 3, 2] ++ List.replicate 160 0) =
      .command (.ldrcPart2 9 3 2 (List.replicate 32 ⟨0, 0, 0, 0⟩)) ∧
    decodeCommand ([0x10, 9, 3, 1] ++ List.replicate 160 0) = .wrongLength := by decide +kernel

/-! ### The spec's worked examples -/

/-- "The digest register over one cell" (spec/07) and the check text of R151. -/
theorem test_digest_registers :
    crc16 [0x00] = 0xE1F0 ∧ crc16 [0x00, 0x00] = 0x1D0F ∧ crc16 [0x30] = 0xD7A3 ∧ crc16 Cell.excludedCell.encoding = 0x189A ∧
    crc16 [0x31, 0x32, 0x33, 0x34, 0x35, 0x36, 0x37, 0x38, 0x39] = 0x29B1 := by decide +kernel

/-- "Round maps" (spec/02): the corners of 4 × 4 and of 3 × 5. -/
theorem test_round_maps : openExclusions ⟨4, 4, true⟩ = [0, 3, 12, 15] ∧ openExclusions ⟨3, 5, true⟩ = [0, 4, 10, 14] ∧
    openExclusions ⟨1, 5, true⟩ = [] ∧ openExclusions ⟨4, 4, false⟩ = [] := by decide +kernel

/-- "Loading recipe 3" (spec/01): the scalars as sent. -/
def recipe3Sent : ScalarsWire := ⟨1, 3, 9300, 9400, 500, 50, 1, 1⟩

/-- "Loading recipe 3": part 1 as sent, bins 1, 2, 7 and 12 defined. -/
def recipe3Part1 : List EntryWire :=
  [⟨6, 1, 0, 0⟩, ⟨6, 1, 1, 0⟩] ++ List.replicate 4 ⟨0, 0, 0, 0⟩ ++ [⟨5, 5, 8, 250⟩] ++ List.replicate 4 ⟨0, 0, 0, 0⟩ ++
    [⟨4, 6, 10, 0⟩] ++ List.replicate 19 ⟨0, 0, 0, 0⟩

/-- "Loading recipe 3": part 2 as sent, bin 40 defined. -/
def recipe3Part2 : List EntryWire :=
  List.replicate 8 ⟨0, 0, 0, 0⟩ ++ [⟨5, 9, 20, 12000⟩] ++ List.replicate 23 ⟨0, 0, 0, 0⟩

/-- The part after part 1 of recipe 3. -/
def recipe3Staged : State :=
  after (.ldrcPart1 1 3 1 recipe3Sent recipe3Part1) (asked (.ldrcPart1 1 3 1 recipe3Sent recipe3Part1) State.reset)

theorem test_ldrc_part1 : recipe3Staged.links[cl].outbound = [.rsp 1 0x10 .ok [1]] ∧
    recipe3Staged.recipes[(3 : Fin 8)] = Recipe.reset := by decide +kernel
theorem test_ldrc_part2 :
    (let t := after (.ldrcPart2 2 3 2 recipe3Part2)
      { recipe3Staged with current := some (.ldrcPart2 2 3 2 recipe3Part2), pointer := 12 }
    t.recipes[(3 : Fin 8)] = recipe3 ∧ t.staging = none ∧
      t.links[cl].outbound.getLast? = some (.rsp 2 0x10 .ok [2, 4])) := by decide +kernel

/-- "A rollup" (spec/01). -/
theorem test_rollup : [1, 2, 3, 4, 5, 6, 7, 8].map (rollup recipe3
    (tallies 1200 1106 [(1, 1080), (2, 26), (7, 31), (12, 40), (40, 23)])) = [1106, 0, 0, 0, 31, 40, 0, 23] := by
  decide +kernel

/-- "One touchdown, one cell hit twice" (spec/04): slot 22, an 8 × 8 map, and TL7 alias 2. -/
def touchdown : State :=
  { part with
    slots := part.slots.set 22 { held .opened 5 8 8 with
      cells := [(26, ⟨.tested, 7, 1, none⟩), (28, ⟨.forced, 1, 0, none⟩), (29, ⟨.tested, 12, 3, none⟩)]
      tallies := tallies 40 31 [(1, 29), (2, 2), (7, 6), (12, 2), (40, 1)] }
    testers := part.testers.set 7
      { bindings := part.testers[7].bindings.set 1 ⟨some 22, none, 0, false⟩
        sites := Vector.ofFn fun k => if k.val < 4 then ⟨true, k.val, 0⟩ else SiteEntry.reset }
    links := part.links.set 7 { Link.testerReset with
      state := .running, receiver := .hunt false
      holding := [(Instr.tdr 7 2 2 3 7 [0, 40, 0, 2, 1, 7, 2, 12, 3, 7, 4, 1, 1, 70]).body] }
    pointer := 7 }

/-- The touchdown of the worked example, taken. -/
def touchdownTaken : State := after (.tdr 7 2 2 3 7 [0, 40, 0, 2, 1, 7, 2, 12, 3, 7, 4, 1, 1, 70]) touchdown

theorem test_tdr_answer : touchdownTaken.links[tl 7].outbound = [.tda 2 .ok .continue
    [.kept, .appliedRetest, .appliedNew, .shadowed, .exhausted, .siteOff, .badBin]] ∧
    touchdownTaken.pointer = 8 ∧ touchdownTaken.testers[(7 : Fin 12)].bindings[(1 : Fin 4)] = ⟨some 22, some 7, 1, false⟩ := by
  decide +kernel
theorem test_tdr_map : touchdownTaken.slots[(22 : Fin 64)].cells = [(26, ⟨.tested, 2, 3, some ⟨7, 0⟩⟩),
      (27, ⟨.tested, 7, 1, some ⟨7, 1⟩⟩), (28, ⟨.forced, 1, 0, none⟩), (29, ⟨.tested, 12, 3, none⟩)] ∧
    touchdownTaken.slots[(22 : Fin 64)].tallies = tallies 41 32 [(1, 29), (2, 3), (7, 6), (12, 2), (40, 1)] ∧
    touchdownTaken.slots[(22 : Fin 64)].shadowed = 1 ∧
    touchdownTaken.lots[(6 : Fin 16)].totals.tested = part.lots[(6 : Fin 16)].totals.tested + 1 := by decide +kernel

/-- "The same cell under the three policies" (spec/04). -/
theorem test_policies :
    (let r := fun p => { recipe3 with scalars := { recipe3.scalars with policy := p } }
    (r .last).keptBin 7 2 = 2 ∧ (r .last).keptBin 2 40 = 40 ∧ (r .best).keptBin 7 2 = 2 ∧ (r .best).keptBin 2 40 = 2 ∧
    (r .stickyPass).keptBin 7 2 = 2 ∧ (r .stickyPass).keptBin 2 40 = 2) := by decide +kernel

/-- "One binding through a run and a close" (spec/03): the first TDR's four results. -/
theorem test_run_states : runSteps recipe3 4 0 14 [1, 7, 7, 7] ⟨some 14, none, 0, false⟩ =
    (⟨some 14, some 7, 2, true⟩, [.runAlarm .enter 4 1 14 7]) := by decide +kernel

/-- "A ceiling breach and its clear" (spec/05). -/
theorem test_breaches :
    ceilingTest 250 50 500 1200 30 .clear = .clear ∧ ceilingTest 250 50 500 1200 31 .clear = .breach ∧
    ceilingTest 250 50 500 400 20 .clear = .clear ∧ ceilingTest 250 50 500 1549 31 .breach = .breach ∧
    ceilingTest 250 50 500 1550 31 .breach = .clear ∧ yieldTest 9300 50 500 1446 1352 .breach = .breach ∧
    yieldTest 9300 50 500 1447 1353 .breach = .clear ∧ yieldTest 9400 50 500 1001 940 .clear = .breach ∧
    yieldTest 9400 50 500 999 940 .clear = .clear := by decide +kernel

/-- A CELL query and a retest pick of the part's slot 0. -/
theorem test_clq : (after (.clq 5 1 0 0) (reporting [0x02, 1, 0, 0])).links[(5 : Fin 13)].outbound =
    [.cla 1 .ok .pause ⟨.tested, 7, 1, none⟩ true] := by decide +kernel
theorem test_rtp : (after (.rtp 5 1 0 16) (reporting [0x03, 1, 0, 0, 16])).links[(5 : Fin 13)].outbound =
    [.rta 1 .ok .pause none [(0, 0)]] := by decide +kernel

/-- "Reclaim with the store full" (spec/02): slot 5 is the candidate, and its retirement. -/
def fullStore : State :=
  { part with
    slots := Vector.ofFn fun i =>
      if i = 5 then { held .closed 3 4 4 with exported := true, closeSeq := some 41, tallies := tallies 1200 1106 [] }
      else if i = 9 then { held .closed 1 4 4 with exported := true, pinned := true, closeSeq := some 37 }
      else if i = 12 then { held .closed 2 4 4 with closeSeq := some 30 }
      else if i = 20 then { held .closed 4 4 4 with exported := true, closeSeq := some 44, busy := some .digest }
      else held .opened (i.val + 5) 4 4
    clearList := [], directory := [⟨6, 3, 5⟩], pinCount := 1, transfer := none
    lots := part.lots.set 5 { Lot.free with state := .opened, ident := some lotE, recipe := some 3 } }

theorem test_opwf_reclaims :
    (let t := after (.opwf 0x21 lotE 7 4 4 1 0) (asked (.opwf 0x21 lotE 7 4 4 1 0) fullStore)
    t.links[cl].outbound = [.acc 0x21 0x16 [5]] ∧ t.clearList = [5] ∧ t.directory = [⟨5, 7, 5⟩] ∧
      t.slots[(5 : Fin 64)].pendingOpen = some ⟨5, 7, 4, 4, true, false, 0x21⟩ ∧
      t.lots[(6 : Fin 16)].carry.tested = 1200 ∧
      t.lots[(5 : Fin 16)].members = [⟨7, none, false, true, none, .none⟩]) := by decide +kernel

/-- A clearing that ends for a pending open. -/
theorem test_clearing_end :
    (let s := { fullStore with
      slots := fullStore.slots.set 5 { Slot.empty .clearing [] with
        identity := some ⟨5, 7⟩, pendingOpen := some ⟨5, 7, 4, 4, true, false, 0x21⟩ }
      lots := fullStore.lots.set 5 { fullStore.lots[5] with members := [⟨7, none, false, true, none, .none⟩] }
      clearList := [5, 9] }
    let t := after .clearingEnd s
    t.clearList = [9] ∧ t.slots[(5 : Fin 64)].state = .opened ∧ t.slots[(5 : Fin 64)].mapSize = 12 ∧
      t.lots[(5 : Fin 16)].members = [⟨7, some 5, false, false, none, .none⟩] ∧
      t.completions = [⟨0x21, 0x16, .ok, [5]⟩]) := by decide +kernel

/-- "A lot from open to retirement" (spec/06): RTLT with two CLOSED slots. -/
theorem test_rtlt :
    (let s := { part with
      lots := part.lots.set 3 { Lot.free with
        state := .closed, ident := some lotE, recipe := some 3, totals := tallies 1400 1320 []
        members := [⟨1, some 40, false, false, some 9500, .accept⟩, ⟨2, some 41, false, false, some 9375, .accept⟩] }
      slots := (part.slots.set 40 { held .closed 1 4 4 with
        identity := some ⟨3, 1⟩, tallies := tallies 600 570 [] }).set 41
        { held .closed 2 4 4 with identity := some ⟨3, 2⟩, tallies := tallies 800 750 [] }
      clearList := [] }
    let t := after (.rtlt 0x44 lotE) (asked (.rtlt 0x44 lotE) s)
    t.links[cl].outbound = [.acc 0x44 0x14 [2]] ∧ t.clearList = [40, 41] ∧
      t.lots[(3 : Fin 16)].retirement = some ⟨[40, 41], 0x44⟩ ∧ t.lots[(3 : Fin 16)].carry.tested = 1400 ∧
      t.lots[(3 : Fin 16)].carry.passed = 1320) := by decide +kernel

/-- R136, R193: soft bins 60 to 63 asked for, four served after their count; a set of bins and nine flags (R193). -/
theorem test_lsum_and_flag_bytes :
    (let f := lsumFields 6 part.lots[(6 : Fin 16)] recipe3 60 63 0
    (f.drop 39).take 3 = [60, 63, 4] ∧ f.length = 42 + 4 * 5 + 8 + 3 + 4 * 6 + 2) ∧
    flagBytes [true, false, false, false, false, false, false, true, true] = [0x81, 0x80] ∧
    binSetBytes ((LimitStates.clear.bins.set 1 .breach).set 63 .breach) = [0x40, 0, 0, 0, 0, 0, 0, 1] := by decide +kernel

/-- R193: the RDCL record of a cell FORCED to bin 63 with a source, and of one without; R194: a recipe entry. -/
theorem test_records : (⟨.forced, 63, 7, some ⟨11, 31⟩⟩ : Cell).record = [0xA7, 0xFF, 0x1F] ∧
    (⟨.tested, 5, 2, none⟩ : Cell).record = [0xD2, 0xC5, 0] ∧
    (⟨true, .pass, 8, 15, 10000, true⟩ : BinEntry).bytes = [7, 8, 15, 0x27, 0x10] := by decide

/-- "A clear-all with work in flight" (spec/09): the five cancelled completions. -/
theorem test_clra :
    (let s := { part with
      transfer := some ⟨31, 0x55, 25, 12, 0, false, .chunks⟩
      jobs := [⟨.digest, 12, 0x60, 0, 1, 0, 1, 0xFFFF⟩, ⟨.sweep, 44, 0x61, 0, 0, 0, 16, 0xFFFF⟩]
      slots := part.slots.set 5 { Slot.empty .clearing [] with
        identity := some ⟨6, 7⟩, pendingOpen := some ⟨6, 7, 4, 4, true, false, 0x21⟩ }
      lots := part.lots.set 3 { Lot.free with state := .retiring, retirement := some ⟨[8], 0x44⟩ } }
    let t := after (.clra 0x70) (asked (.clra 0x70) s)
    t.links[cl].outbound = [.rsp 0x70 0x27 .ok [5]] ∧ t.completions =
      [⟨0x55, 0x1C, .cancelled, [31, 0, 12]⟩, ⟨0x60, 0x28, .cancelled, [12]⟩, ⟨0x61, 0x17, .cancelled, [44]⟩,
        ⟨0x21, 0x16, .cancelled, [5]⟩, ⟨0x44, 0x14, .cancelled, [3]⟩] ∧
      t.clearList = part.clearList ++ [0, 2, 63]) := by decide +kernel

/-- "Close, a stopped export, a full export and a reopen" (spec/07): the end of the sweep. -/
theorem test_sweep_end :
    (let s := { part with
      closeSeq := 57
      slots := part.slots.set 31 { held .closing 8 1 1 with
        busy := some .sweep, tallies := tallies 1550 1456 [], limits := { LimitStates.clear with seen := true } }
      jobs := [⟨.sweep, 31, 0x51, 0, 0, 0, 1, 0xFFFF⟩] }
    let t := after .sweepEnd s
    t.slots[(31 : Fin 64)].state = .closed ∧ t.slots[(31 : Fin 64)].disposition = .hold ∧ t.closeSeq = 58 ∧
      t.slots[(31 : Fin 64)].closeDigest = some 0x1D0F ∧ t.jobs = [] ∧ t.completions =
        [⟨0x51, 0x17, .ok, [31, 0x24, 0xB1, 2, 0x1D, 0x0F, 0, 0, 0, 58, 0]⟩]) := by decide +kernel

/-- The same sequence: XSTP after 10 chunks and the MND that answers it. -/
theorem test_stopped_export :
    (let s := { part with
      transfer := some ⟨63, 0x53, 25, 10, 0x1234, true, .ending⟩ }
    let t := after .mnd s
    t.links[cl].outbound = [.mnd 63 .stopped 10 0x1234] ∧ t.slots[(63 : Fin 64)].state = .closed ∧
      t.slots[(63 : Fin 64)].exported = false ∧ t.completions = [⟨0x53, 0x1C, .stopped, [63, 0, 10, 0x12, 0x34]⟩]) := by
  decide +kernel

/-- The same sequence: the reopen releases the forced cells and leaves the counts. -/
theorem test_rpwf :
    (let s := { part with
      slots := part.slots.set 31 { held .closed 8 4 4 with
        cells := [(5, ⟨.forced, 1, 1, none⟩), (6, ⟨.forced, 7, 0, none⟩)], tallies := tallies 1550 1456 []
        limits := { LimitStates.clear with seen := true }, disposition := .hold, closeSeq := some 58 } }
    let t := after (.rpwf 0x56 31) (asked (.rpwf 0x56 31) s)
    t.links[cl].outbound = [.rsp 0x56 0x18 .ok [0, 0, 2, 0]] ∧ t.slots[(31 : Fin 64)].cells =
        [(5, ⟨.tested, 1, 1, none⟩), (6, ⟨.tested, 7, 0, none⟩)] ∧
      t.slots[(31 : Fin 64)].disposition = .none ∧ t.slots[(31 : Fin 64)].closeSeq = none ∧
      t.slots[(31 : Fin 64)].limits.seen = false) := by decide +kernel

/-- "Resynchronizing after damage" (spec/08): noise, a bad length, silence. -/
theorem test_receiver :
    (let l := fun (r : Receiver) (e : LinkError) (bad : Nat) => part.setLink 3
        { Link.testerReset with state := .running, receiver := r, lastError := e, bad := bad }
    let a := after (.byteReceived 3 0x17) (l (.hunt false) .none 0)
    let b := after (.byteReceived 3 0xD2) (l .length .framing 1)
    let c := after (.interByteTimeout 3) (l (.body 0x12 [1, 2]) .framing 3)
    (a.links[(3 : Fin 13)].lastError = .framing ∧ a.links[(3 : Fin 13)].bad = 1 ∧
      a.links[cl].outbound = [.alr (.linkError 3 .framing)]) ∧
    (b.links[(3 : Fin 13)].lastError = .length ∧ b.links[(3 : Fin 13)].bad = 2 ∧ b.links[cl].outbound = []) ∧
    (c.links[(3 : Fin 13)].lastError = .timeout ∧ c.links[(3 : Fin 13)].bad = 4 ∧
      c.links[(3 : Fin 13)].receiver = .hunt false)) := by decide +kernel

/-- "An overrun, then a drain" (spec/11): the take of the last held frame of a DRAINING link stops it. -/
theorem test_drained :
    (let s := { part with
      links := part.links.set 6 { Link.testerReset with state := .draining, holding := [[0xFF]] }, pointer := 6 }
    let t := after (.frameDiscard 6) s
    t.links[(6 : Fin 13)].state = .stopped ∧ t.links[(6 : Fin 13)].lastError = .type ∧ t.pointer = 7) := by
  decide +kernel

/-! ### States and operands that meet the hypotheses of the statements -/

/-- A held frame of TL5 with the pointer at TL5: the engine takes it. -/
theorem reporting_takes (body : List Byte) : EngineTakesFrame 5 body (reporting body) := by
  refine ⟨rfl, ?_, rfl⟩
  have hw : (reporting body).hasWork 5 = true := rfl
  have hl : ((List.finRange 13).map fun k => (reporting body).pointer + k) =
      5 :: ((List.finRange 13).tail.map fun k => (reporting body).pointer + k) := rfl
  rw [State.nextSource, hl, List.find?_cons_of_pos hw]; rfl

/-- The engine takes a report of TL5 whose body is held. -/
theorem reporting_report (c : Instr) (h : decodeReport 5 c.body = .command c) :
    EngineTakesReport 5 c (reporting c.body) := ⟨c.body, reporting_takes c.body, h⟩

theorem witness_step_runs_the_front_command :
    ({ part with pending := [.mch, .don] } : State).pending = .mch :: [.don] ∧ part.pending = [] := ⟨rfl, rfl⟩

theorem witness_untaken_command_changes_nothing :
    ((Instr.clra 1).isCommand = true ∧ (Instr.clra 1).selfServed = false ∧ ¬ EngineTakes (.clra 1) part) ∧
    ((Instr.stpa 1).selfServed = true ∧ ¬ InterpreterServes (.stpa 1) part) ∧
    (reportLink (.clq 11 1 0 0) = some 11 ∧ ¬ EngineTakesReport 11 (.clq 11 1 0 0) part) := by
  have hc : part.current = none := rfl
  have hh : part.links[tl 11].holding = [] := by decide +kernel
  refine ⟨⟨rfl, rfl, fun h => ?_⟩, ⟨rfl, fun h => ?_⟩, rfl, fun ⟨_, h, _⟩ => ?_⟩
  · rw [EngineTakes, hc] at h; exact nomatch h.2.1
  · rw [InterpreterServes, hc] at h; exact nomatch h.2.1
  · rw [EngineTakesFrame, hh] at h; exact nomatch h.2.2

theorem witness_asserted_reset_pin_holds_the_part :
    ({ part with resetPin := true } : State).resetPin = true ∧ Instr.don ≠ .powerOn ∧ Instr.don ≠ .resetPinAssert ∧
      Instr.don ≠ .resetPinRelease := by decide +kernel

theorem witness_ready_line :
    ({ part with resetPin := true } : State).ready 12 = false ∧ part.resetPin = false ∧ part.ready 12 = true ∧
    (let full := part.setLink 5 { part.links[5] with holding := [[1], [2]] }
    full.ready 5 = false ∧ (full.setLink 5 { full.links[5] with mode := .free }).ready 5 = true) := by decide +kernel

theorem witness_frame_body_decodes_to_itself :
    ((Instr.stmp 1 11 49 (List.replicate 49 ⟨31, 1, 15, 0xF1⟩)).wf = true ∧
      (Instr.stmp 1 11 49 (List.replicate 49 ⟨31, 1, 15, 0xF1⟩)).isCommand = true) ∧
    ((Instr.tdr 11 4 0xFFFF 0 32 (List.replicate 193 0)).wf = true ∧
      reportLink (.tdr 11 4 0xFFFF 0 32 (List.replicate 193 0)) = some 11) := by decide +kernel

theorem witness_reading_a_body_loses_nothing :
    ([0x2C, 1, 11, 49] ++ List.replicate 196 (31 : Byte)).length = 200 ∧
    decodeCommand ([0x2C, 1, 11, 49] ++ List.replicate 196 31) =
      .command (.stmp 1 11 49 (List.replicate 49 ⟨31, 31, 31, 31⟩)) ∧
    decodeReport 11 ([0x01, 4, 0, 0, 0, 0, 32] ++ List.replicate 193 9) =
      .command (.tdr 11 4 0 0 32 (List.replicate 193 9)) := by decide +kernel

theorem witness_cell_encoding : (⟨.forced, 63, 7, none⟩ : Cell).attempts ≤ 7 ∧ Cell.blank.attempts ≤ 7 := by decide

theorem witness_frame_bytes_deliver_the_body :
    (part.resetPin = false ∧ part.links[(5 : Fin 13)].receiver = .hunt false ∧
      part.links[(5 : Fin 13)].state ≠ .draining ∧ part.links[(5 : Fin 13)].holding.length < holdCap 5) ∧
    (1 ≤ [(0x27 : Byte)].length ∧ 1 ≤ (List.replicate 200 (0 : Byte)).length ∧
      (List.replicate 200 (0 : Byte)).length ≤ 200) ∧
    (let s := part.setLink 12 { part.links[12] with receiver := .hunt true, holding := [[1], [2], [3]] };
      s.links[(12 : Fin 13)].receiver = .hunt true ∧ s.links[(12 : Fin 13)].state ≠ .draining ∧
        s.links[(12 : Fin 13)].holding.length < holdCap 12) := by decide +kernel

theorem witness_power_on_and_reset_pin :
    part.resetPin = false ∧ ({ part with resetPin := true } : State).resetPin = true := ⟨rfl, rfl⟩

theorem witness_receiver_handles_each_byte :
    part.resetPin = false ∧
    (let s := fun r => part.setLink 5 { part.links[5] with receiver := r }
    (s .idle).links[(5 : Fin 13)].receiver = .idle ∧ (s (.hunt true)).links[(5 : Fin 13)].receiver = .hunt true ∧
      (s .length).links[(5 : Fin 13)].receiver = .length ∧
      (s (.body 1 [])).links[(5 : Fin 13)].receiver = .body 1 [] ∧
      (s (.check 1 [9] none)).links[(5 : Fin 13)].receiver = .check 1 [9] none ∧
      (s .length).links[(5 : Fin 13)].receiver.inFrame = true) := by decide +kernel

theorem witness_second_check_byte_completes_the_frame :
    part.resetPin = false ∧
    (part.setLink 12 { part.links[12] with receiver := .check 1 [9] (some 0) }).links[(12 : Fin 13)].receiver =
      .check 1 [9] (some 0) := by decide +kernel

theorem witness_message_sent_frees_its_entry :
    part.resetPin = false ∧ (part.place 12 (.don ⟨1, 0x16, .ok, [0]⟩)).links[(12 : Fin 13)].outbound =
      [.don ⟨1, 0x16, .ok, [0]⟩] ∧ part.links[(12 : Fin 13)].outbound = [] := by decide +kernel

theorem witness_lctl_start_and_stop :
    (InterpreterServes (.lctlStart 1 12 0 0) (asked (.lctlStart 1 12 0 0)) ∧ 12 ≤ (12 : Byte).toNat) ∧
    (InterpreterServes (.lctlStart 1 11 6 0) (asked (.lctlStart 1 11 6 0)) ∧ 5 < (6 : Byte).toNat) ∧
    (InterpreterServes (.lctlStart 1 11 0 0) (asked (.lctlStart 1 11 0 0)) ∧ (11 : Byte).toNat = (11 : Fin 12).val ∧
      (0 : Byte).toNat = 0) ∧
    InterpreterServes (.lctlStopDrain 1 12 0) (asked (.lctlStopDrain 1 12 0)) ∧
    InterpreterServes (.lctlStopDrain 1 11 0) (asked (.lctlStopDrain 1 11 0)) ∧
    InterpreterServes (.lctlStopForce 1 12 0) (asked (.lctlStopForce 1 12 0)) ∧
    InterpreterServes (.lctlStopForce 1 11 0) (asked (.lctlStopForce 1 11 0)) :=
  ⟨⟨asked_serves _, by decide⟩, ⟨asked_serves _, by decide⟩, ⟨asked_serves _, by decide, rfl⟩, asked_serves _,
    asked_serves _, asked_serves _, asked_serves _⟩

theorem witness_lctl_restart_mode_and_rate :
    InterpreterServes (.lctlRestart 1 12 0) (asked (.lctlRestart 1 12 0)) ∧
    InterpreterServes (.lctlRestart 1 11 0) (asked (.lctlRestart 1 11 0)) ∧
    (InterpreterServes (.lctlSetMode 1 11 2) (asked (.lctlSetMode 1 11 2)) ∧ 1 < (2 : Byte).toNat) ∧
    (InterpreterServes (.lctlSetMode 1 11 1) (asked (.lctlSetMode 1 11 1)) ∧ (1 : Byte).toNat ≤ 1) ∧
    (InterpreterServes (.lctlSetRate 1 11 2) (asked (.lctlSetRate 1 11 2)) ∧
      (2 : Byte).toNat ≠ 1 ∧ (2 : Byte).toNat ≠ 4 ∧ (2 : Byte).toNat ≠ 12) ∧
    (InterpreterServes (.lctlSetRate 1 11 12) (asked (.lctlSetRate 1 11 12)) ∧ (12 : Byte) = Rate.mbaud12.code ∧
      (1 : Byte) = Rate.mbaud1.code ∧ (4 : Byte) = Rate.mbaud4.code) :=
  ⟨asked_serves _, asked_serves _, ⟨asked_serves _, by decide⟩, ⟨asked_serves _, by decide⟩,
    ⟨asked_serves _, by decide⟩, asked_serves _, by decide⟩

theorem witness_lsta_reports_and_clears :
    (InterpreterServes (.lsta 1 13) (asked (.lsta 1 13)) ∧ 13 ≤ (13 : Byte).toNat) ∧
    (InterpreterServes (.lsta 1 12) (asked (.lsta 1 12)) ∧ (12 : Byte).toNat = (12 : Fin 13).val) :=
  ⟨⟨asked_serves _, by decide⟩, asked_serves _, by decide⟩

theorem witness_commands_are_taken_and_dons_placed :
    (let s := part.setLink cl { part.links[cl] with holding := [[0x27, 1], [0x31]] };
    s.resetPin = false ∧ s.current = none ∧ s.links[cl].holding = [0x27, 1] :: [[0x31]]) ∧
    (asked (.clra 1)).current ≠ none ∧ part.links[cl].holding = [] ∧
    ({ part with completions := [⟨1, 0x16, .ok, [0]⟩] } : State).completions = ⟨1, 0x16, .ok, [0]⟩ :: [] ∧
    part.completions = [] := by decide +kernel

theorem witness_alert_status_and_stop_all :
    (InterpreterServes (.asta 1 0 0) (asked (.asta 1 0 0)) ∧ (0 : Byte).toNat = 0) ∧
    (InterpreterServes (.asta 1 5 0) (asked (.asta 1 5 0)) ∧ 4 < (5 : Byte).toNat) ∧
    (InterpreterServes (.asta 1 1 63) (asked (.asta 1 1 63)) ∧ (1 : Byte).toNat = 1 ∧ (2 : Byte).toNat = 2 ∧
      (3 : Byte).toNat = 3 ∧ (4 : Byte).toNat = 4) ∧
    InterpreterServes (.asta 1 2 15) (asked (.asta 1 2 15)) ∧
    InterpreterServes (.asta 1 3 0) (asked (.asta 1 3 0)) ∧ InterpreterServes (.asta 1 4 0) (asked (.asta 1 4 0)) ∧
    InterpreterServes (.stpa 1) (asked (.stpa 1)) ∧ InterpreterServes (.rsma 1) (asked (.rsma 1)) :=
  ⟨⟨asked_serves _, rfl⟩, ⟨asked_serves _, by decide⟩, ⟨asked_serves _, by decide⟩, asked_serves _, asked_serves _,
    asked_serves _, asked_serves _, asked_serves _⟩

theorem witness_clear_all_ends_all_work : EngineTakes (.clra 1) (asked (.clra 1)) := asked_takes _ rfl

theorem witness_unfit_frames_are_discarded :
    (EngineTakesFrame 5 [0x10] (reporting [0x10]) ∧ decodeReport 5 [0x10] = .unknownType) ∧
    (EngineTakesFrame 5 [0x02, 1] (reporting [0x02, 1]) ∧ decodeReport 5 [0x02, 1] = .wrongLength) ∧
    (EngineTakesFrame 5 [0x02, 1, 0, 0] (reporting [0x02, 1, 0, 0]) ∧
      decodeReport 5 [0x02, 1, 0, 0] = .command (.clq 5 1 0 0)) :=
  ⟨⟨reporting_takes _, rfl⟩, ⟨reporting_takes _, rfl⟩, reporting_takes _, rfl⟩

/-- The part with TL5 alias 2 bound to a slot that is not OPEN. -/
def stale : State := part.setBinding 5 1 ⟨some 2, none, 0, false⟩

theorem witness_unresolved_reports_are_stopped :
    EngineTakesReport 5 (.tdr 5 1 0 0 0 []) (reporting (Instr.tdr 5 1 0 0 0 []).body) ∧
    (EngineTakesReport 5 (.tdr 5 1 0 0 33 []) (reporting (Instr.tdr 5 1 0 0 33 []).body) ∧ 32 < (33 : Byte).toNat) ∧
    (EngineTakesReport 5 (.tdr 5 1 0 0 1 [0]) (reporting (Instr.tdr 5 1 0 0 1 [0]).body) ∧
      [(0 : Byte)].length ≠ 2 * (1 : Byte).toNat) ∧
    (EngineTakesReport 5 (.tdr 5 4 0 0 1 [0, 1]) (reporting (Instr.tdr 5 4 0 0 1 [0, 1]).body) ∧
      [(0 : Byte), 1].length = 2 * (1 : Byte).toNat ∧
      EndsWith 5 4 .unbound (reporting (Instr.tdr 5 4 0 0 1 [0, 1]).body)) ∧
    (EngineTakesReport 5 (.clq 5 5 0 0) (reporting (Instr.clq 5 5 0 0).body) ∧
      EndsWith 5 5 .malformed (reporting (Instr.clq 5 5 0 0).body)) ∧
    EndsWith 5 0 .malformed part ∧ EndsWith 5 2 .notOpen stale ∧
    (EngineTakesReport 5 (.rtp 5 4 0 16) (reporting (Instr.rtp 5 4 0 16).body) ∧
      EndsWith 5 4 .unbound (reporting (Instr.rtp 5 4 0 16).body)) := by
  refine ⟨reporting_report _ rfl, ⟨reporting_report _ rfl, by decide⟩, ⟨reporting_report _ rfl, by decide⟩,
    ⟨reporting_report _ rfl, by decide, .inr ⟨3, by decide, .inl ⟨by decide +kernel, rfl⟩⟩⟩,
    ⟨reporting_report _ rfl, .inl ⟨by decide, rfl⟩⟩, .inl ⟨by decide, rfl⟩,
    .inr ⟨1, by decide, .inr ⟨2, by decide +kernel, by decide +kernel, rfl⟩⟩,
    reporting_report _ rfl, .inr ⟨3, by decide, .inl ⟨by decide +kernel, rfl⟩⟩⟩

theorem witness_resolved_reports :
    (EngineTakesReport 5 (.tdr 5 1 0 0 32 (List.replicate 64 0)) (reporting (Instr.tdr 5 1 0 0 32 (List.replicate 64 0)).body) ∧
      (List.replicate 64 (0 : Byte)).length = 2 * (32 : Byte).toNat ∧
      ResolvesTo 5 1 0 0 (reporting (Instr.tdr 5 1 0 0 32 (List.replicate 64 0)).body)) ∧
    (EngineTakesReport 5 (.clq 5 1 2 1) (reporting (Instr.clq 5 1 2 1).body) ∧
      ResolvesTo 5 1 0 0 (reporting (Instr.clq 5 1 2 1).body)) ∧
    (EngineTakesReport 5 (.rtp 5 1 0 16) (reporting (Instr.rtp 5 1 0 16).body) ∧
      ResolvesTo 5 1 0 0 (reporting (Instr.rtp 5 1 0 16).body)) := by
  refine ⟨⟨reporting_report _ rfl, by decide +kernel, ?_⟩, ⟨reporting_report _ rfl, ?_⟩, reporting_report _ rfl, ?_⟩
  all_goals exact ⟨by decide, by decide +kernel, by decide +kernel⟩

theorem witness_site_results_and_policies :
    32 ≤ 32 ∧ 31 = (31 : Fin 32).val ∧ (7 : Fin 64) ≠ 2 ∧ recipe3.scalars.policy = .best ∧
    recipe3.entries[(1 : Fin 64)].rank < recipe3.entries[(2 : Fin 64)].rank ∧
    recipe3.entries[(1 : Fin 64)].rank ≤ recipe3.entries[(1 : Fin 64)].rank ∧
    ({ recipe3.scalars with policy := .last } : Scalars).policy = .last ∧
    ({ recipe3.scalars with policy := .stickyPass } : Scalars).policy = .stickyPass ∧
    recipe3.entries[(1 : Fin 64)].cls = .pass ∧ recipe3.entries[(7 : Fin 64)].cls = .fail := by decide +kernel

theorem witness_retest_outcomes :
    (let w := part.wafer 0
    placeOf part.testers[(5 : Fin 12)].sites w.slot 0 0 0 = .cell 0 0 ∧ recipe3.binOf 12 = some 12 ∧
      (w.slot.cell 0).status = .tested ∧ (w.slot.cell 0).attempts < recipe3.scalars.attemptLimit ∧
      (12 : Fin 64) ≠ (w.slot.cell 0).bin) ∧
    (let r := { recipe3 with entries := recipe3.entries.set 12 ⟨true, .fail, 6, 8, 0, false⟩ }
    r.scalars.policy = .best ∧ r.entries[(12 : Fin 64)].rank = r.entries[(7 : Fin 64)].rank ∧
      r.binOf 12 = some 12) := by decide +kernel

theorem witness_counted_outcomes :
    (applySite recipe3 7 touchdown.testers[(7 : Fin 12)].sites 2 3 (1, 7) (touchdown.wafer 22)).2 = .appliedNew ∧
    (applySite recipe3 7 touchdown.testers[(7 : Fin 12)].sites 2 3 (0, 2) (touchdown.wafer 22)).2 = .appliedRetest ∧
    (applySite recipe3 7 touchdown.testers[(7 : Fin 12)].sites 2 3 (0, 40) (touchdown.wafer 22)).2 = .kept := by
  decide +kernel

theorem witness_evaluations_and_write_back :
    ((part.wafer 0).slot.identity = some ⟨6, 1⟩ ∧ (part.wafer 0).moved = false) ∧
    (((part.wafer 0).tally (Tallies.add recipe3 7)).slot.identity = some ⟨6, 1⟩ ∧
      ((part.wafer 0).tally (Tallies.add recipe3 7)).moved = true) ∧
    (let s := { part with jobs := [⟨.digest, 0, 0x60, 0, 6, 0, 6, 0xFFFF⟩] };
      s.jobs = ⟨.digest, 0, 0x60, 0, 6, 0, 6, 0xFFFF⟩ :: [] ∧ s.slots[(0 : Fin 64)].state = .opened) ∧
    part.jobs = [] := by decide +kernel

theorem witness_workspace : (part.wafer 0).slot.cells.wf = true ∧ part.slots[(0 : Fin 64)].identity = some ⟨6, 1⟩ := by
  decide +kernel

theorem witness_force_and_unforce_cell :
    (EngineTakes (.frcl 1 64 0 0 7) (asked (.frcl 1 64 0 0 7)) ∧ 64 ≤ (64 : Byte).toNat) ∧
    (EngineTakes (.frcl 1 0 0 1 63) (asked (.frcl 1 0 0 1 63)) ∧ (0 : Byte).toNat = (0 : Fin 64).val) ∧
    EngineTakes (.ufcl 1 64 0 0) (asked (.ufcl 1 64 0 0)) ∧
    (EngineTakes (.ufcl 1 63 1 0) (asked (.ufcl 1 63 1 0)) ∧ (63 : Byte).toNat = (63 : Fin 64).val) :=
  ⟨⟨asked_takes _ rfl, by decide⟩, ⟨asked_takes _ rfl, by decide⟩, asked_takes _ rfl, asked_takes _ rfl, by decide⟩

theorem witness_exclude_and_include_rectangle :
    (EngineTakes (.excl 1 64 0 0 9 9) (asked (.excl 1 64 0 0 9 9)) ∧ EngineTakes (.incl 1 64 0 0 9 9) (asked (.incl 1 64 0 0 9 9))) ∧
    (EngineTakes (.excl 1 63 0 0 9 9) (asked (.excl 1 63 0 0 9 9)) ∧ EngineTakes (.incl 1 63 0 0 9 9) (asked (.incl 1 63 0 0 9 9)) ∧
      part.slots[(63 : Fin 64)].state ≠ .opened) ∧
    (EngineTakes (.excl 1 0 0 0 9 9) (asked (.excl 1 0 0 0 9 9)) ∧ EngineTakes (.incl 1 0 0 0 9 9) (asked (.incl 1 0 0 0 9 9)) ∧
      part.slots[(0 : Fin 64)].state = .opened ∧ part.slots[(0 : Fin 64)].cells.wf = true ∧
      1 ≤ part.slots[(0 : Fin 64)].cols ∧ 1 ≤ part.slots[(0 : Fin 64)].rows) :=
  ⟨⟨asked_takes _ rfl, asked_takes _ rfl⟩, ⟨asked_takes _ rfl, asked_takes _ rfl, by decide +kernel⟩,
    asked_takes _ rfl, asked_takes _ rfl, by decide +kernel⟩

theorem witness_breach_tests : (31 ≤ 1200) ∧ (50 ≤ 50) ∧ (10000 ≤ 9950 + 50) ∧ (1200 ≤ 1200) ∧
    recipe3.scalars.waferFloor ≤ 10000 := by decide +kernel

theorem witness_recipe_load_stages_and_commits :
    EngineTakes (.ldrcPart1 1 7 1 recipe3Sent []) (asked (.ldrcPart1 1 7 1 recipe3Sent [])) ∧
    (EngineTakes (.ldrcPart2 1 8 2 []) (asked (.ldrcPart2 1 8 2 [])) ∧ 8 ≤ (8 : Byte).toNat) ∧
    (EngineTakes (.ldrcPart2 1 7 0 []) (asked (.ldrcPart2 1 7 0 [])) ∧ (0 : Byte).toNat = 0 ∧ 3 ≤ (3 : Byte).toNat) ∧
    (EngineTakes (.ldrcPart2 1 7 2 []) (asked (.ldrcPart2 1 7 2 [])) ∧ (7 : Byte).toNat = (7 : Fin 8).val ∧
      1 ≤ (2 : Byte).toNat ∧ (2 : Byte).toNat ≤ 2 ∧ part.staging = none) ∧
    (let s := { asked (.ldrcPart2 1 7 2 []) with staging := some ⟨7, Scalars.reset, [], 0⟩ };
      EngineTakes (.ldrcPart2 1 7 2 []) s ∧ s.staging = some ⟨7, Scalars.reset, [], 0⟩) ∧
    (6 : Byte).getLsbD 2 = true ∧ (2 : Byte).getLsbD 2 = false :=
  ⟨asked_takes _ rfl, ⟨asked_takes _ rfl, by decide⟩, ⟨asked_takes _ rfl, by decide⟩,
    ⟨asked_takes _ rfl, by decide, by decide, by decide, rfl⟩, ⟨asked_takes (.ldrcPart2 1 7 2 []) rfl, rfl⟩, by decide⟩

theorem witness_record_readers_answer :
    (EngineTakes (.rdrc 1 8 1) (asked (.rdrc 1 8 1)) ∧ EngineTakes (.rdrc 1 3 3) (asked (.rdrc 1 3 3)) ∧
      8 ≤ (8 : Byte).toNat ∧ (3 : Byte).toNat ≠ 1 ∧ (3 : Byte).toNat ≠ 2) ∧
    (EngineTakes (.rdrc 1 7 2) (asked (.rdrc 1 7 2)) ∧ (7 : Byte).toNat = (7 : Fin 8).val ∧ (2 : Byte).toNat = 2) ∧
    EngineTakes (.rdcl 1 64 0 0 0) (asked (.rdcl 1 64 0 0 0)) ∧
    (EngineTakes (.rdcl 1 63 0 64 64) (asked (.rdcl 1 63 0 64 64)) ∧ (63 : Byte).toNat = (63 : Fin 64).val) ∧
    (EngineTakes (.fndw 1 lotE 1) (asked (.fndw 1 lotE 1)) ∧ part.findLot lotE = none) ∧
    (EngineTakes (.fndw 1 lotC 4) (asked (.fndw 1 lotC 4)) ∧ part.findLot lotC = some 6) :=
  ⟨⟨asked_takes _ rfl, asked_takes _ rfl, by decide⟩, ⟨asked_takes _ rfl, by decide⟩, asked_takes _ rfl,
    ⟨asked_takes _ rfl, by decide⟩, ⟨asked_takes _ rfl, by decide +kernel⟩, asked_takes _ rfl, by decide +kernel⟩

theorem witness_summaries_answer :
    EngineTakes (.wsum 1 64 1 63) (asked (.wsum 1 64 1 63)) ∧ EngineTakes (.wsum 1 63 1 63) (asked (.wsum 1 63 1 63)) ∧
    (EngineTakes (.lsum 1 lotC 0 63 0) (asked (.lsum 1 lotC 0 63 0)) ∧ ¬ (1 ≤ (0 : Byte).toNat)) ∧
    (EngineTakes (.lsum 1 lotE 1 63 0) (asked (.lsum 1 lotE 1 63 0)) ∧ 1 ≤ (1 : Byte).toNat ∧ (63 : Byte).toNat ≤ 63 ∧
      part.findLot lotE = none) ∧
    (EngineTakes (.lsum 1 lotC 63 63 50) (asked (.lsum 1 lotC 63 63 50)) ∧ (63 : Byte).toNat ≤ (63 : Byte).toNat ∧
      part.findLot lotC = some 6) :=
  ⟨asked_takes _ rfl, asked_takes _ rfl, ⟨asked_takes _ rfl, by decide⟩, ⟨asked_takes _ rfl, by decide +kernel⟩,
    asked_takes _ rfl, by decide +kernel⟩

/-- The part with every lot entry in use. -/
def fullTable : State := { part with lots := Vector.replicate 16 { Lot.free with state := .opened } }

theorem witness_open_lot_takes_the_lowest_free_entry :
    EngineTakes (.oplt 1 lotE 8) (asked (.oplt 1 lotE 8)) ∧
    (EngineTakes (.oplt 1 [0x7F] 7) (asked (.oplt 1 [0x7F] 7)) ∧ ∃ b ∈ ([0x7F] : LotId), b.toNat < 0x20 ∨ 0x7E < b.toNat) ∧
    (EngineTakes (.oplt 1 lotC 3) (asked (.oplt 1 lotC 3)) ∧ (∀ b ∈ lotC, 0x20 ≤ b.toNat ∧ b.toNat ≤ 0x7E) ∧
      ∃ k : Fin 16, part.lots[k].state ≠ .free ∧ part.lots[k].ident = some lotC) ∧
    (EngineTakes (.oplt 1 lotE 3) (asked (.oplt 1 lotE 3)) ∧ (∀ b ∈ lotE, 0x20 ≤ b.toNat ∧ b.toNat ≤ 0x7E) ∧
      (∀ k : Fin 16, part.lots[k].state ≠ .free → part.lots[k].ident ≠ some lotE) ∧
      part.lots[(0 : Fin 16)].state = .free ∧ ∀ j : Fin 16, j < 0 → part.lots[j].state ≠ .free) ∧
    ((∀ k : Fin 16, fullTable.lots[k].state ≠ .free → fullTable.lots[k].ident ≠ some lotE) ∧
      ∀ k : Fin 16, fullTable.lots[k].state ≠ .free) :=
  ⟨asked_takes _ rfl, ⟨asked_takes _ rfl, by decide⟩, ⟨asked_takes _ rfl, by decide, by decide +kernel⟩,
    ⟨asked_takes _ rfl, by decide, by decide +kernel, by decide +kernel, by decide⟩, by decide +kernel, by decide +kernel⟩

theorem witness_lot_commands :
    (EngineTakes (.cllt 1 lotE) (asked (.cllt 1 lotE)) ∧ EngineTakes (.rtlt 1 lotE) (asked (.rtlt 1 lotE)) ∧
      EngineTakes (.rlhdLot 1 0 lotE) (asked (.rlhdLot 1 0 lotE)) ∧ part.findLot lotE = none) ∧
    (EngineTakes (.cllt 1 lotC) (asked (.cllt 1 lotC)) ∧ part.findLot lotC = some 6) ∧
    (EngineTakes (.rtlt 1 lotD) (asked (.rtlt 1 lotD)) ∧ EngineTakes (.rlhdLot 1 0 lotD) (asked (.rlhdLot 1 0 lotD)) ∧
      part.findLot lotD = some 7) ∧
    (EngineTakes (.rlhdWafer 1 0 2 lotC) (asked (.rlhdWafer 1 0 2 lotC)) ∧ (0 : Byte).toNat ≠ 1) ∧
    (EngineTakes (.rlhdWafer 1 1 64 lotC) (asked (.rlhdWafer 1 1 64 lotC)) ∧ 64 ≤ (64 : Byte).toNat) ∧
    (EngineTakes (.rlhdWafer 1 1 2 lotC) (asked (.rlhdWafer 1 1 2 lotC)) ∧ (1 : Byte).toNat = 1 ∧
      (2 : Byte).toNat = (2 : Fin 64).val) :=
  ⟨⟨asked_takes _ rfl, asked_takes _ rfl, asked_takes _ rfl, by decide +kernel⟩, ⟨asked_takes _ rfl, by decide +kernel⟩,
    ⟨asked_takes _ rfl, asked_takes _ rfl, by decide +kernel⟩, ⟨asked_takes _ rfl, by decide⟩,
    ⟨asked_takes _ rfl, by decide⟩, asked_takes _ rfl, by decide⟩

theorem witness_open_wafer_finds_its_slot :
    (EngineTakes (.opwf 1 lotE 50 256 256 1 0) (asked (.opwf 1 lotE 50 256 256 1 0)) ∧ part.findLot lotE = none) ∧
    (EngineTakes (.opwf 1 lotC 50 256 256 1 0) (asked (.opwf 1 lotC 50 256 256 1 0)) ∧ part.findLot lotC = some 6) :=
  ⟨⟨asked_takes _ rfl, by decide +kernel⟩, asked_takes _ rfl, by decide +kernel⟩

theorem witness_round_maps : (255 < 256 ∧ 256 ≤ 256) ∧ (⟨256, 256, true⟩ : Geometry).rows * 256 ≤ 65536 ∧ 1 ≤ 1 ∧
    (⟨6, 5, 4, 4, false, false, 0x21⟩ : PendingOpen).round = false := by decide

theorem witness_clearing_end :
    (part.resetPin = false ∧ part.clearList = 3 :: part.clearList.tail ∧ part.slots[(3 : Fin 64)].pendingOpen = none) ∧
    (let s := part.attach 3 ⟨6, 5, 4, 4, true, false, 0x21⟩;
      s.slots[(3 : Fin 64)].pendingOpen = some ⟨6, 5, 4, 4, true, false, 0x21⟩) ∧
    (let s := part.setLot 3 { Lot.free with state := .retiring, retirement := some ⟨[3], 0x44⟩ };
      s.lots[(3 : Fin 16)].state = .retiring ∧ s.lots[(3 : Fin 16)].retirement = some ⟨[3], 0x44⟩ ∧
        (3 : Fin 64) ∈ [(3 : Fin 64)] ∧ ∀ j : Fin 16, j < 3 → s.lots[j].state ≠ .retiring) ∧
    (∀ k : Fin 16, part.lots[k].state ≠ .retiring) ∧ ({ part with clearList := [] } : State).clearList = [] := by
  decide +kernel

theorem witness_slot_commands :
    (EngineTakes (.rtwf 1 64) (asked (.rtwf 1 64)) ∧ EngineTakes (.pins 1 64) (asked (.pins 1 64)) ∧
      EngineTakes (.upin 1 64) (asked (.upin 1 64)) ∧ EngineTakes (.clwf 1 64) (asked (.clwf 1 64)) ∧
      EngineTakes (.rpwf 1 64) (asked (.rpwf 1 64)) ∧ EngineTakes (.dgst 1 64 0 0) (asked (.dgst 1 64 0 0)) ∧
      EngineTakes (.xprt 1 64) (asked (.xprt 1 64)) ∧ 64 ≤ (64 : Byte).toNat) ∧
    (EngineTakes (.rtwf 1 2) (asked (.rtwf 1 2)) ∧ EngineTakes (.pins 1 2) (asked (.pins 1 2)) ∧
      EngineTakes (.upin 1 2) (asked (.upin 1 2)) ∧ EngineTakes (.clwf 1 2) (asked (.clwf 1 2)) ∧
      EngineTakes (.dgst 1 2 5 1) (asked (.dgst 1 2 5 1)) ∧ EngineTakes (.xprt 1 2) (asked (.xprt 1 2)) ∧
      (2 : Byte).toNat = (2 : Fin 64).val) ∧
    part.slots[(2 : Fin 64)].identity = some ⟨6, 2⟩ :=
  ⟨⟨asked_takes _ rfl, asked_takes _ rfl, asked_takes _ rfl, asked_takes _ rfl, asked_takes _ rfl, asked_takes _ rfl,
      asked_takes _ rfl, by decide⟩,
    ⟨asked_takes _ rfl, asked_takes _ rfl, asked_takes _ rfl, asked_takes _ rfl, asked_takes _ rfl, asked_takes _ rfl,
      by decide⟩, by decide +kernel⟩

theorem witness_reopen_wafer :
    (EngineTakes (.rpwf 1 63) (asked (.rpwf 1 63)) ∧ part.slots[(63 : Fin 64)].state = .exporting) ∧
    (EngineTakes (.rpwf 1 0) (asked (.rpwf 1 0)) ∧ part.slots[(0 : Fin 64)].state ≠ .exporting ∧
      part.slots[(0 : Fin 64)].state ≠ .closed) ∧
    (fullStore.slots[(20 : Fin 64)].state = .closed ∧ fullStore.slots[(20 : Fin 64)].busy ≠ none) ∧
    (EngineTakes (.rpwf 1 2) (asked (.rpwf 1 2)) ∧ part.slots[(2 : Fin 64)].state = .closed ∧
      part.slots[(2 : Fin 64)].busy = none ∧ part.slots[(2 : Fin 64)].identity = some ⟨6, 2⟩ ∧
      part.lots[(6 : Fin 16)].state = .opened ∧ part.slots[(2 : Fin 64)].cells.wf = true) ∧
    (part.setLot 6 { part.lots[6] with state := .closed }).lots[(6 : Fin 16)].state ≠ .opened :=
  ⟨⟨asked_takes _ rfl, by decide +kernel⟩, ⟨asked_takes _ rfl, by decide +kernel⟩, by decide +kernel,
    ⟨asked_takes _ rfl, by decide +kernel⟩, by decide +kernel⟩

theorem witness_unit_ends :
    (let s := { part with jobs := [⟨.sweep, 31, 0x51, 0, 0, 0, 6, 0xFFFF⟩] };
      s.resetPin = false ∧ s.jobs = ⟨.sweep, 31, 0x51, 0, 0, 0, 6, 0xFFFF⟩ :: []) ∧
    (let s := { part with jobs := [⟨.digest, 0, 0x60, 5, 1, 5, 6, 0xFFFF⟩] };
      s.resetPin = false ∧ s.jobs = ⟨.digest, 0, 0x60, 5, 1, 5, 6, 0xFFFF⟩ :: []) ∧
    part.jobs = [] ∧ part.transfer = some ⟨63, 0x53, 2, 0, 0xFFFF, false, .chunks⟩ ∧
    ({ part with transfer := some ⟨63, 0x53, 2, 2, 0, false, .ending⟩ } : State).transfer =
      some ⟨63, 0x53, 2, 2, 0, false, .ending⟩ ∧ State.reset.transfer = none := by decide +kernel

theorem witness_export_stop :
    (EngineTakes (.xstp 1) (asked (.xstp 1)) ∧ part.transfer = some ⟨63, 0x53, 2, 0, 0xFFFF, false, .chunks⟩) ∧
    (EngineTakes (.xstp 1) { asked (.xstp 1) with transfer := none } ∧
      ({ asked (.xstp 1) with transfer := none } : State).transfer = none) :=
  ⟨⟨asked_takes _ rfl, rfl⟩, asked_takes (.xstp 1) rfl, rfl⟩

theorem witness_binding_commands :
    (EngineTakes (.bind 1 12 1 0) (asked (.bind 1 12 1 0)) ∧ 12 ≤ (12 : Byte).toNat) ∧
    (EngineTakes (.bind 1 11 0 0) (asked (.bind 1 11 0 0)) ∧ EngineTakes (.bind 1 11 5 0) (asked (.bind 1 11 5 0)) ∧
      EngineTakes (.bind 1 11 4 64) (asked (.bind 1 11 4 64)) ∧ 4 < (5 : Byte).toNat ∧ 64 ≤ (64 : Byte).toNat) ∧
    (EngineTakes (.bind 1 11 4 63) (asked (.bind 1 11 4 63)) ∧ (11 : Byte).toNat = (11 : Fin 12).val ∧
      (4 : Byte).toNat = (3 : Fin 4).val + 1 ∧ (63 : Byte).toNat = (63 : Fin 64).val) ∧
    EngineTakes (.ubnd 1 11 5) (asked (.ubnd 1 11 5)) ∧ EngineTakes (.ubnd 1 5 1) (asked (.ubnd 1 5 1)) ∧
    EngineTakes (.rsmb 1 12 1) (asked (.rsmb 1 12 1)) ∧ EngineTakes (.rsmb 1 5 1) (asked (.rsmb 1 5 1)) :=
  ⟨⟨asked_takes _ rfl, by decide⟩, ⟨asked_takes _ rfl, asked_takes _ rfl, asked_takes _ rfl, by decide⟩,
    ⟨asked_takes _ rfl, by decide⟩, asked_takes _ rfl, asked_takes _ rfl, asked_takes _ rfl, asked_takes _ rfl⟩

theorem witness_site_map_is_written_whole :
    (EngineTakes (.stmp 1 11 33 []) (asked (.stmp 1 11 33 [])) ∧ 32 < (33 : Byte).toNat) ∧
    (EngineTakes (.stmp 1 11 1 [⟨31, 1, 16, 0⟩]) (asked (.stmp 1 11 1 [⟨31, 1, 16, 0⟩])) ∧
      15 < ((16 : Byte).toInt)) ∧
    (EngineTakes (.stmp 1 11 2 [⟨31, 1, 15, 0xF1⟩, ⟨31, 0, 0, 0⟩]) (asked (.stmp 1 11 2 [⟨31, 1, 15, 0xF1⟩, ⟨31, 0, 0, 0⟩])) ∧
      ¬ (12 ≤ (11 : Byte).toNat ∨ (2 : Byte).toNat = 0 ∨ 32 < (2 : Byte).toNat ∨
        ∃ e ∈ ([⟨31, 1, 15, 0xF1⟩, ⟨31, 0, 0, 0⟩] : List SiteWire), 32 ≤ e.site.toNat ∨ e.dx.toInt < -15 ∨
          15 < e.dx.toInt ∨ e.dy.toInt < -15 ∨ 15 < e.dy.toInt)) :=
  ⟨⟨asked_takes _ rfl, by decide⟩, ⟨asked_takes _ rfl, by decide⟩, asked_takes _ rfl, by decide⟩

/-! ### A state that keeps every law, and its step -/

/-- Wafer 1 of lot entry 6, OPEN in slot 0 with one of its two dice tested. -/
def tested0 : Slot :=
  { held .opened 1 1 2 with cells := [(0, ⟨.tested, 1, 1, some ⟨5, 0⟩⟩)], tallies := tallies 1 1 [(1, 1)] }

/-- Lot entry 6 with that wafer. -/
def tested6 : Lot :=
  { Lot.free with
    state := .opened, ident := some lotC, recipe := some 3, totals := tallies 1 1 [(1, 1)]
    members := [⟨1, some 0, false, false, none, .none⟩] }

/-- TL5 with its alias 1 bound to slot 0. -/
def tested5 : Tester := { Tester.reset with bindings := Tester.reset.bindings.set 0 ⟨some 0, some 7, 1, false⟩ }

/-- TL5 in the middle of a frame. -/
def busy5 : Link := { Link.testerReset with state := .running, receiver := .body 2 [0x02], good := 1 }

/-- One wafer at work, every other slot still CLEARING, and the end of the next clearing to come. -/
def working : State :=
  { State.reset with
    pending := [.clearingEnd], recipes := State.reset.recipes.set 3 recipe3, lots := State.reset.lots.set 6 tested6
    slots := State.reset.slots.set 0 tested0, clearList := (List.finRange 64).tail, directory := [⟨6, 1, 0⟩]
    testers := State.reset.testers.set 5 tested5, links := State.reset.links.set 5 busy5 }

theorem working_slot (i : Fin 64) : working.slots[i] = if i = 0 then tested0 else Slot.empty .clearing [] := by
  revert i; decide +kernel

theorem working_lot (k : Fin 16) : working.lots[k] = if k = 6 then tested6 else Lot.free := by
  revert k; decide +kernel

theorem working_recipe (r : Fin 8) : working.recipes[r] = if r = 3 then recipe3 else Recipe.reset := by
  revert r; decide +kernel

theorem working_link (n : Fin 13) : working.links[n] =
    if n = 5 then busy5 else if n = 12 then Link.controlReset else Link.testerReset := by
  revert n; decide +kernel

theorem witness_step_of_the_laws : ∃ t, step working = .next t ∧ t.slots[(1 : Fin 64)].state = .free :=
  ⟨after .clearingEnd { working with pending := [] }, rfl, by decide +kernel⟩

theorem witness_links_law : LinksLaw working where
  links n := by
    rw [working_link]
    split
    · exact ⟨by revert n; decide +kernel, by decide, by revert n; decide +kernel, by decide, by decide, (by decide : 1 ≤ (2 : Byte).toNat ∧ (2 : Byte).toNat ≤ 200 ∧ [(2 : Byte)].length < (2 : Byte).toNat), by decide⟩
    · split
      · subst n; exact ⟨by decide, by decide, by decide, by decide, by decide, trivial, by decide⟩
      · exact ⟨Nat.zero_le _, by decide, Nat.zero_le _, by decide, by decide, trivial, by decide⟩
  control := by decide +kernel

theorem witness_records_law : RecordsLaw working where
  recipes r := by
    rw [working_recipe]
    split
    · exact ⟨by constructor <;> decide +kernel, by unfold entryLaw; decide +kernel, by decide +kernel, nofun,
        fun _ => by decide +kernel⟩
    · exact ⟨by constructor <;> decide, by unfold entryLaw; decide +kernel, by decide, fun _ => rfl,
        fun h => absurd rfl h⟩
  staging g hg := nomatch hg
  memory := by decide +kernel
  cells i k := by
    rw [working_slot]
    split
    · by_cases h : k = 0
      · subst h; constructor <;> decide
      · have : tested0.cell k = Cell.blank := by
          simp [tested0, held, Slot.cell, Memory.read, h]
        rw [this]; constructor <;> decide
    · have : (Slot.empty .clearing []).cell k = Cell.blank := by simp [Slot.cell, Slot.empty, Memory.read]
      rw [this]; constructor <;> decide

theorem witness_life_law : LifeLaw working where
  clearOnce := by decide +kernel
  clearExactly := by decide +kernel
  held i h := by
    rw [working_slot] at h
    split at h
    · subst i
      exact ⟨⟨6, 1⟩, ⟨1, 2, false⟩, by decide +kernel, by decide +kernel, by unfold gridLaw; decide, by decide +kernel,
        by decide +kernel, by decide +kernel, ⟨⟨1, some 0, false, false, none, .none⟩, by decide +kernel, rfl, rfl⟩⟩
    · exact nomatch h
  unheld := by decide +kernel
  identities i j d hi hj := by
    rw [working_slot] at hi hj
    split at hi <;> split at hj
    · simp_all
    · exact nomatch hj
    · exact nomatch hi
    · exact nomatch hj
  pendings i o h := by
    rw [working_slot] at h
    split at h <;> exact nomatch h
  members := by decide +kernel
  retiring := by decide +kernel
  freeLots := by decide +kernel
  namedLots := by decide +kernel
  pins := by decide +kernel
  pinned := by decide +kernel
  bound := by decide +kernel
  unbound := by decide +kernel
  jobCount := by decide
  jobSlots := by decide
  jobs j h := nomatch h
  markers := by decide +kernel
  exporting i := by
    rw [working_slot]
    split <;> exact ⟨(nomatch ·), fun ⟨_, h, _⟩ => nomatch h⟩
  transfers x h := nomatch h

theorem witness_tally_law : TallyLaw working where
  slots i h := by
    rw [working_slot] at h
    split at h
    · subst i; exact ⟨by decide +kernel, by decide +kernel, by decide +kernel, by decide +kernel⟩
    · exact nomatch h
  empty := by decide +kernel
  lots := by decide +kernel

theorem witness_digest_law : DigestLaw working where
  closed := by decide +kernel
  sweeps j h := nomatch h
  transfer x h := nomatch h

/-- The one tested cell is the only cell of the state at work that is not blank. -/
theorem working_cell (i : Fin 64) (k : Nat) : working.slots[i].cell k =
    if i = 0 ∧ k = 0 then ⟨.tested, 1, 1, some ⟨5, 0⟩⟩ else Cell.blank := by
  rw [working_slot]
  by_cases hi : i = 0
  · by_cases hk : k = 0
    · subst hi hk; decide +kernel
    · simp [hi, hk, tested0, held, Slot.cell, Memory.read]
  · simp [hi, Slot.cell, Slot.empty, Memory.read]

theorem witness_map_law : MapLaw working where
  bins i _ k h := by
    simp only [working_cell] at h ⊢
    split
    · next hik => obtain ⟨rfl, rfl⟩ := hik; decide +kernel
    · next hik => rw [if_neg hik] at h; exact nomatch h
  attempts i hi k := by
    simp only [working_cell]
    split
    · next hik => obtain ⟨rfl, rfl⟩ := hik; decide +kernel
    · exact Nat.zero_le _

theorem witness_lists_law : ListsLaw working where
  directory k w i := by
    rw [working_slot]
    by_cases hi : i = 0
    · subst hi
      simp [working, tested0, held, eq_comm]
    · simp [working, hi, Slot.empty]
  directoryOnce := by decide +kernel
  members := by decide +kernel
  runs := by decide +kernel
  slotMarks := by decide +kernel
  lotMarks := by decide +kernel
  completions := by decide +kernel

theorem witness_close_law : CloseLaw working where
  counter := by decide
  closed i h := by
    simp only [working_slot] at h
    split at h <;> exact absurd h (by decide)
  others i _ _ := by
    simp only [working_slot]
    split <;> exact ⟨rfl, rfl, rfl, rfl, rfl⟩

/-- A CLOSED slot with its close results, under the highest counter value. -/
theorem witness_close_law_closed :
    CloseLaw { State.reset with
      closeSeq := 4294967295
      slots := State.reset.slots.set 2 { held .closed 2 2 3 with
        disposition := .hold, closeSeq := some 1, finalYield := some 0 } } := by
  refine ⟨by decide, ?_, by decide +kernel⟩
  intro i
  by_cases hi : i = 2
  · subst hi; exact fun _ => ⟨⟨1, by decide +kernel⟩, by decide +kernel, by decide +kernel⟩
  · have hv : (2 : Nat) ≠ i.val := fun h => hi (Fin.ext h.symm)
    intro h
    simp [hv, State.reset, Slot.empty] at h

theorem witness_rollups : working.slots[(0 : Fin 64)].inUse = true ∧
    ([1, 2, 3, 4, 5, 6, 7, 8].map fun h => rollup (working.recipeOfSlot 0) working.slots[(0 : Fin 64)].tallies h) =
      [1, 0, 0, 0, 0, 0, 0, 0] := by decide +kernel

theorem witness_lookup : working.lookup 6 1 = some 0 ∧ working.lookup 6 2 = none := by decide +kernel

end Sys2Proof.Tests
end

section
/-! PROOFS. The round maps of R28: which cells initialization excludes, by column and row, and why the exact integers
stay small. -/

namespace Sys2Proof.Machine

/-! ### Doubled offsets from the centre of an axis -/

/-- The doubled offset of a cell from the centre of its axis is less than the length of the axis. -/
theorem sq_doubledOffset_lt {x n : Nat} (h : x < n) : (2 * (x : Int) + 1 - n) ^ 2 < (n : Int) ^ 2 :=
  sq_lt_sq' (by omega) (by omega)

/-- R28: one term of the ellipse test on a grid of at most 256 × 256. -/
theorem ellipseTerm_lt {x n m : Nat} (h : x < n) (hn : n ≤ 256) (hm : m ≤ 256) :
    (2 * (x : Int) + 1 - n) ^ 2 * (m : Int) ^ 2 < 2 ^ 32 := by
  have hoff := sq_doubledOffset_lt h
  have hn2 : (n : Int) ^ 2 ≤ 256 ^ 2 := pow_le_pow_left₀ (by omega) (by omega) 2
  have hm2 : (m : Int) ^ 2 ≤ 256 ^ 2 := pow_le_pow_left₀ (by omega) (by omega) 2
  calc (2 * (x : Int) + 1 - n) ^ 2 * (m : Int) ^ 2
      ≤ (2 * (x : Int) + 1 - n) ^ 2 * 256 ^ 2 := by gcongr
    _ < 256 ^ 2 * 256 ^ 2 := by omega
    _ = 2 ^ 32 := by norm_num

/-- R28: the other side of the ellipse test on a grid of at most 256 × 256. -/
theorem gridProduct_le {rows cols : Nat} (hr : rows ≤ 256) (hc : cols ≤ 256) :
    (rows : Int) ^ 2 * (cols : Int) ^ 2 ≤ 2 ^ 32 := by
  have hr' : (rows : Int) ≤ 256 := by omega
  have hc' : (cols : Int) ≤ 256 := by omega
  calc (rows : Int) ^ 2 * (cols : Int) ^ 2 ≤ 256 ^ 2 * 256 ^ 2 := by gcongr
    _ = 2 ^ 32 := by norm_num

/-! ### The ellipse test -/

theorem outsideEllipse_iff {rows cols x y : Nat} :
    outsideEllipse rows cols x y = true ↔
      (rows : Int) ^ 2 * (cols : Int) ^ 2 <
        (2 * (x : Int) + 1 - cols) ^ 2 * (rows : Int) ^ 2 + (2 * (y : Int) + 1 - rows) ^ 2 * (cols : Int) ^ 2 := by
  simp only [outsideEllipse, decide_eq_true_eq, Nat.cast_mul, pow_two, mul_assoc]

/-- In a single row the vertical offset is 0, so no cell is outside the ellipse. -/
theorem outsideEllipse_oneRow {cols x : Nat} (hx : x < cols) : outsideEllipse 1 cols x 0 = false := by
  have hoff := sq_doubledOffset_lt hx
  rw [Bool.eq_false_iff, ne_eq, outsideEllipse_iff]
  push_cast
  linarith

/-- In a single column the horizontal offset is 0, so no cell is outside the ellipse. -/
theorem outsideEllipse_oneColumn {rows y : Nat} (hy : y < rows) : outsideEllipse rows 1 0 y = false := by
  have hoff := sq_doubledOffset_lt hy
  rw [Bool.eq_false_iff, ne_eq, outsideEllipse_iff]
  push_cast
  linarith

/-! ### The exclusions of a grid -/

/-- The cell at column `x` and row `y` has an index of the grid. -/
theorem cellIndex_lt {rows cols x y : Nat} (hx : x < cols) (hy : y < rows) : y * cols + x < rows * cols :=
  calc y * cols + x < (y + 1) * cols := by rw [Nat.succ_mul]; omega
    _ ≤ rows * cols := Nat.mul_le_mul_right cols hy

/-- R28: the index of a cell gives its column and row back. -/
theorem excludedAtOpen_cellIndex {rows cols x y : Nat} {round : Bool} (hx : x < cols) :
    excludedAtOpen ⟨rows, cols, round⟩ (y * cols + x) = (round && outsideEllipse rows cols x y) := by
  have hcol : (y * cols + x) % cols = x := by rw [Nat.mul_add_mod_self_right, Nat.mod_eq_of_lt hx]
  have hrow : (y * cols + x) / cols = y := by
    rw [Nat.mul_comm, Nat.mul_add_div (by omega), Nat.div_eq_of_lt hx, Nat.add_zero]
  simp only [excludedAtOpen, hcol, hrow]

theorem openExclusions_eq_nil {g : Geometry} (h : ∀ i < g.rows * g.cols, excludedAtOpen g i = false) :
    openExclusions g = [] := by
  simpa [openExclusions] using h

theorem openExclusions_notRound (rows cols : Nat) : openExclusions ⟨rows, cols, false⟩ = [] :=
  openExclusions_eq_nil fun _ _ => rfl

theorem openExclusions_oneRow (n : Nat) (round : Bool) : openExclusions ⟨1, n, round⟩ = [] := by
  refine openExclusions_eq_nil fun i hi => ?_
  replace hi : i < n := by simpa using hi
  simp [excludedAtOpen, Nat.mod_eq_of_lt hi, Nat.div_eq_of_lt hi, outsideEllipse_oneRow hi]

theorem openExclusions_oneColumn (n : Nat) (round : Bool) : openExclusions ⟨n, 1, round⟩ = [] := by
  refine openExclusions_eq_nil fun i hi => ?_
  replace hi : i < n := by simpa using hi
  simp [excludedAtOpen, Nat.mod_one, outsideEllipse_oneColumn hi]

/-! ### The map after initialization -/

/-- No exclusions, no cell record: every cell is the blank one. -/
theorem Memory.initial_eq_nil {g : Geometry} (h : openExclusions g = []) : Memory.initial g = [] := by
  rw [Memory.initial, h, List.map_nil]

/-- R28: the cell at column `x` and row `y` after initialization. -/
theorem Memory.read_initial_cellIndex {rows cols x y : Nat} {round : Bool} (hx : x < cols) (hy : y < rows) :
    (Memory.initial ⟨rows, cols, round⟩).read (y * cols + x) =
      if round = true ∧ outsideEllipse rows cols x y = true then Cell.excludedCell else Cell.blank := by
  simp only [Memory.read_initial, excludedAtOpen_cellIndex hx, cellIndex_lt hx hy, true_and, Bool.and_eq_true]

/-- Past the map a cell is blank. -/
theorem Memory.read_initial_beyond {g : Geometry} {k : Nat} (h : g.rows * g.cols ≤ k) :
    (Memory.initial g).read k = Cell.blank := by
  rw [Memory.read_initial, if_neg fun hk => absurd hk.1 (Nat.not_lt.2 h)]

theorem State.initSlot_mapSize (s : State) (i : Fin 64) (o : PendingOpen) :
    (s.initSlot i o).slots[i].mapSize =
      o.rows * o.cols - (openExclusions ⟨o.rows, o.cols, o.round⟩).length := by
  simp [State.initSlot]

theorem State.initSlot_cells (s : State) (i : Fin 64) (o : PendingOpen) :
    (s.initSlot i o).slots[i].cells = Memory.initial ⟨o.rows, o.cols, o.round⟩ := by
  simp [State.initSlot]

/-- Settles O44: the cell law by reading the index back as column and row, the rest by the sizes of the doubled
offsets. -/
theorem roundMapsExcludeOutsideTheEllipse : Obligations.RoundMapsExcludeOutsideTheEllipse := by
  refine ⟨fun rows cols x y round hx hy => ?cell, fun g k hk => Memory.read_initial_beyond hk,
    fun n round _ => ⟨Memory.initial_eq_nil (openExclusions_oneRow n round),
      Memory.initial_eq_nil (openExclusions_oneColumn n round)⟩,
    fun rows cols x y hr hc hx hy => ⟨?terms, ?product⟩, fun s i o ho => ⟨?size, ?cells⟩⟩
  case cell =>
    simp only [Memory.read_initial_cellIndex hx hy, outsideEllipse_iff, Cell.excludedCell, Cell.blank]
  case terms =>
    have hcol := ellipseTerm_lt hx hc hr
    have hrow := ellipseTerm_lt hy hr hc
    linarith
  case product => exact (gridProduct_le hr hc).trans_lt (by norm_num)
  case size => rw [State.initSlot_mapSize, ho, openExclusions_notRound, List.length_nil, Nat.sub_zero]
  case cells => rw [State.initSlot_cells, ho]

end Sys2Proof.Machine
end

section
/-! PROOFS. The alias entries of the Binding Table: how the byte fields of BIND name a link, an entry and a slot, and what
BIND does to the entry (R45). -/

namespace Sys2Proof.Machine

open Sys2Proof.Safety

/-! ### The byte fields that name a record -/

theorem testerOf_eq_some {b : Byte} {n : Fin 12} (h : b.toNat = n.val) : testerOf b = some n := by
  simp [testerOf, h]

theorem testerOf_eq_none {b : Byte} (h : 12 ≤ b.toNat) : testerOf b = none := dif_neg (by omega)

theorem aliasOf_eq_some {b : Byte} {a : Fin 4} (h : b.toNat = a.val + 1) : aliasOf b = some a := by
  simp [aliasOf, h, a.isLt]

theorem aliasOf_eq_none {b : Byte} (h : b.toNat = 0 ∨ 4 < b.toNat) : aliasOf b = none := dif_neg (by omega)

theorem slotOf_eq_some {b : Byte} {i : Fin 64} (h : b.toNat = i.val) : slotOf b = some i := by
  simp [slotOf, h]

theorem slotOf_eq_none {b : Byte} (h : 64 ≤ b.toNat) : slotOf b = none := dif_neg (by omega)

/-! ### Commands on an alias entry -/

section AliasItem

variable {c : Instr} {tag link aliasNo : Byte} {work : Fin 12 → Fin 4 → State → Item} {s : State}

/-- With a link and an alias in range, the item is the command's work on the entry they name. -/
theorem aliasItem_of_named {n : Fin 12} {a : Fin 4} (hn : link.toNat = n.val) (ha : aliasNo.toNat = a.val + 1) :
    aliasItem c tag link aliasNo work s = work n a s := by
  simp only [aliasItem, testerOf_eq_some hn, aliasOf_eq_some ha]

/-- A link or an alias out of range is refused before the command's work (R45, R47, R58). -/
theorem aliasItem_outOfRange (h : 12 ≤ link.toNat ∨ aliasNo.toNat = 0 ∨ 4 < aliasNo.toNat) :
    aliasItem c tag link aliasNo work s = .refuse c tag .badField s := by
  obtain hlink | halias := h
  · simp only [aliasItem, testerOf_eq_none hlink]
  · cases htester : testerOf link <;> simp only [aliasItem, htester, aliasOf_eq_none halias]

/-- Work that refuses every entry with BAD_FIELD makes the command refuse, whatever link and alias it names. -/
theorem aliasItem_of_work_refuses (h : ∀ n a, work n a s = .refuse c tag .badField s) :
    aliasItem c tag link aliasNo work s = .refuse c tag .badField s := by
  unfold aliasItem
  split
  · exact h _ _
  · rfl

end AliasItem

/-! ### BIND -/

section Bind

variable {c : Instr} {tag slot : Byte} {n : Fin 12} {a : Fin 4} {i : Fin 64} {s : State}

theorem bindWork_badSlot (h : 64 ≤ slot.toNat) : bindWork c tag slot n a s = .refuse c tag .badField s := by
  simp only [bindWork, slotOf_eq_none h]

/-- R45: only an OPEN slot can be bound. -/
theorem bindWork_notOpen (hi : slot.toNat = i.val) (h : s.slots[i].state ≠ .opened) :
    bindWork c tag slot n a s = .refuse c tag .wrongState s := by
  simp only [bindWork, slotOf_eq_some hi, if_neg h]

/-- R45, R46: the whole entry is set whatever it held, the slot bound before is answered, and an alarm that was set is
cleared with its alert (R59). -/
theorem bindWork_open (hi : slot.toNat = i.val) (h : s.slots[i].state = .opened) :
    bindWork c tag slot n a s = ⟨s.setBinding n a ⟨some i, none, 0, false⟩, alarmClear n a s.testers[n].bindings[a],
      .rsp tag c.code .ok [slotByte s.testers[n].bindings[a].slot], []⟩ := by
  simp only [bindWork, slotOf_eq_some hi, if_pos h]

end Bind

theorem exec_bind_taken {tag link aliasNo slot : Byte} {s : State} (h : EngineTakes (.bind tag link aliasNo slot) s) :
    exec (.bind tag link aliasNo slot) s = .next (aliasItem (.bind tag link aliasNo slot) tag link aliasNo
      (bindWork (.bind tag link aliasNo slot) tag slot) s).finish := engineCommand_taken h

/-- Settles O52: BIND's checks in the order link and alias, slot, slot state; each case is one equation of `aliasItem` or
`bindWork` under the end of an engine item. -/
theorem bindSetsTheEntry : Obligations.BindSetsTheEntry := by
  intro tag link aliasNo slot s htakes
  refine ⟨fun hbad => ?badField, fun n a i hn ha hi => ?named⟩
  case badField =>
    have hitem : aliasItem (.bind tag link aliasNo slot) tag link aliasNo
        (bindWork (.bind tag link aliasNo slot) tag slot) s = .refuse (.bind tag link aliasNo slot) tag .badField s := by
      by_cases hslot : 64 ≤ slot.toNat
      · exact aliasItem_of_work_refuses fun _ _ => bindWork_badSlot hslot
      · exact aliasItem_outOfRange (by omega)
    rw [Refuses, exec_bind_taken htakes, hitem, Item.finish_refuse]
  case named =>
    rw [exec_bind_taken htakes, aliasItem_of_named hn ha]
    by_cases hopen : s.slots[i].state = .opened
    · rw [bindWork_open hi hopen, Item.finish_alerts]
      simp only [if_pos hopen]
      rfl
    · rw [bindWork_notOpen hi hopen, Item.finish_refuse]
      simp only [if_neg hopen]
      rfl

end Sys2Proof.Machine
end

section
/-! PROOFS. The breach tests of ceilings and yield floors (R97 to R99): when each test passes, which limits an
evaluation tests, and the tallies a slot and a lot are judged on. -/

namespace Sys2Proof.Machine

open Sys2Proof.Safety

/-! ### The bin-ceiling test -/

section Ceiling

variable {C H N T count : Nat}

theorem ceilingTest_enters_iff :
    ceilingTest C H N T count .clear = .breach ↔ N ≤ T ∧ C * T < 10000 * count := by
  simp [ceilingTest]

theorem ceilingTest_clears_iff :
    ceilingTest C H N T count .breach = .clear ↔ 10000 * count ≤ (C - H) * T := by
  simp [ceilingTest]

/-- R97: no share exceeds a ceiling of 10,000. -/
theorem ceilingTest_top_stays_clear (h : count ≤ T) : ceilingTest 10000 H N T count .clear = .clear :=
  if_neg fun ⟨_, hover⟩ => by omega

/-- R98: with the hysteresis at or above the ceiling, a breach clears only when the bin holds no tested cell. -/
theorem ceilingTest_clears_iff_of_le (h : C ≤ H) :
    ceilingTest C H N T count .breach = .clear ↔ count = 0 := by
  rw [ceilingTest_clears_iff, Nat.sub_eq_zero_of_le h]
  omega

end Ceiling

/-! ### The yield test -/

section Yield

variable {F H N T P : Nat}

theorem yieldTest_enters_iff :
    yieldTest F H N T P .clear = .breach ↔ N ≤ T ∧ 10000 * P < F * T := by
  simp [yieldTest]

theorem yieldTest_clears_iff :
    yieldTest F H N T P .breach = .clear ↔ min (F + H) 10000 * T ≤ 10000 * P := by
  simp [yieldTest]

/-- R99: with the clear threshold held at 10,000, a breach clears only when every tested die passes. -/
theorem yieldTest_clears_iff_of_ge (h : 10000 ≤ F + H) (hP : P ≤ T) :
    yieldTest F H N T P .breach = .clear ↔ P = T := by
  rw [yieldTest_clears_iff, Nat.min_eq_right h]
  omega

end Yield

/-! ### The limits an evaluation tests -/

/-- R3, R93: the bins with a ceiling test are the defined FAIL bins other than 0 whose ceiling is not 0. -/
theorem Recipe.hasCeiling_iff {r : Recipe} {b : Fin 64} : r.hasCeiling b = true ↔
    b ≠ 0 ∧ r.entries[b].defined = true ∧ r.entries[b].cls = .fail ∧ 0 < r.entries[b].ceiling := by
  simp [Recipe.hasCeiling, and_assoc]

/-- Bin 0 has no ceiling test, so leaving it out of an evaluation holds its state as `evaluateBin` does. -/
theorem evaluateBin_zero (r : Recipe) (t : Tallies) (l : LimitStates) : evaluateBin r t l 0 = l.bins[(0 : Fin 64)] :=
  if_neg fun h => (Recipe.hasCeiling_iff.1 h).1 rfl

theorem evaluate_bin (r : Recipe) (floor : Nat) (t : Tallies) (l : LimitStates) (b : Fin 64) :
    (evaluate r floor t l).bins[b] = evaluateBin r t l b := by
  by_cases hb : b = 0
  · subst hb
    simp [evaluate, evaluateBin_zero]
  · simp [evaluate, hb]

theorem evaluate_yield (r : Recipe) (floor : Nat) (t : Tallies) (l : LimitStates) :
    (evaluate r floor t l).yield = evaluateYield r floor t l := rfl

/-! ### The tallies judged -/

/-- R99, R102: a slot is judged on its own tallies by the wafer floor. -/
theorem State.evaluateSlot_limits (s : State) (i : Fin 64) : (s.evaluateSlot i).1.slots[i].limits =
    evaluate (s.recipeOfSlot i) (s.recipeOfSlot i).scalars.waferFloor s.slots[i].tallies s.slots[i].limits := by
  simp [State.evaluateSlot_fst]

/-- R99, R127: a lot is judged on its totals by the lot floor. -/
theorem State.evaluateLot_limits (s : State) (k : Fin 16) : (s.evaluateLot k).1.lots[k].limits =
    evaluate (s.recipeOfLot k) (s.recipeOfLot k).scalars.lotFloor s.lots[k].totals s.lots[k].limits := by
  simp [State.evaluateLot_fst]

/-- R97: a lot's count for a soft bin is carry plus member sum. -/
theorem totals_count_of_tallyLaw {s : State} {k : Fin 16} (b : Fin 64) (h : TallyLaw s)
    (hk : s.lots[k].state ≠ .free) :
    s.lots[k].totals.counts[b] = s.lots[k].carry.counts[b] + memberSum s k fun t => t.counts[b] :=
  have ⟨_, _, hcounts⟩ := h.lots k hk
  hcounts b

/-- Settles O32: each test by its passing condition, each evaluated limit by its own test, and a lot's counts by the law
of tallies. -/
theorem breachTests : Obligations.BreachTests := by
  refine ⟨fun C H N T count => ⟨ceilingTest_enters_iff, ?clears, ceilingTest_top_stays_clear,
      ceilingTest_clears_iff_of_le⟩,
    fun F H N T P => ⟨yieldTest_enters_iff, yieldTest_clears_iff, yieldTest_clears_iff_of_ge⟩,
    fun r floor t l => ⟨fun b => ?bin, evaluate_yield r floor t l⟩,
    State.evaluateSlot_limits, State.evaluateLot_limits, fun s k b => totals_count_of_tallyLaw b⟩
  case clears => rw [ceilingTest_clears_iff, Nat.max_zero]
  case bin => simp only [evaluate_bin, evaluateBin, Recipe.hasCeiling_iff]

end Sys2Proof.Machine
end

section
/-! PROOFS. The digest register as a fold over bits (R151), and the bytes a range of cells and an export chunk give it
(R152). -/

namespace Sys2Proof.Machine

open Sys2Proof.Safety

/-! ### The register over bits and bytes -/

/-- R151: the two cases of a bit, by whether it equals the register's top bit. -/
theorem crcBit_eq : crcBit = fun (reg : Word16) (bit : Bool) =>
    if bit = reg.getLsbD 15 then reg <<< 1 else (reg <<< 1) ^^^ 0x1021#16 := by
  funext reg bit
  have htop : reg.msb = reg.getLsbD 15 := BitVec.msb_eq_getLsbD_last reg
  simp only [crcBit, htop, bne_iff_ne, ne_eq, ite_not, @eq_comm _ bit, BitVec.ofNat_eq_ofNat]

/-- A byte goes into the register bit by bit, in the order of `bitsOf`. -/
theorem crcByte_eq_foldl_bitsOf (reg : Word16) (b : Byte) : crcByte reg b = (bitsOf b).foldl crcBit reg := by
  rw [bitsOf, List.foldl_map, crcByte]

/-- R151: bytes go into the register as the sequence of all their bits. -/
theorem crcFrom_eq_foldl_bits (reg : Word16) (bytes : List Byte) :
    crcFrom reg bytes = (bytes.flatMap bitsOf).foldl crcBit reg := by
  have hbyte : crcByte = fun r b => (bitsOf b).foldl crcBit r := funext₂ crcByte_eq_foldl_bitsOf
  rw [List.foldl_flatMap, crcFrom, hbyte]

/-! ### The encoding of a cell -/

theorem CellStatus.code_le (st : CellStatus) : st.code ≤ 3 := by
  cases st <;> decide

theorem Cell.encoding_eq (c : Cell) :
    c.encoding = [BitVec.ofNat 8 (c.status.code * 16 + c.attempts), BitVec.ofNat 8 c.bin.val] := rfl

theorem Cell.encoding_length (c : Cell) : c.encoding.length = 2 := rfl

/-- R152: the last source of a cell is not encoded. -/
theorem Cell.encoding_withSource (c : Cell) (src : Option Source) :
    ({ c with source := src } : Cell).encoding = c.encoding := rfl

/-- R152: n cells are encoded in 2n bytes. -/
theorem length_flatMap_encoding {α : Type} (xs : List α) (cell : α → Cell) :
    (xs.flatMap fun x => (cell x).encoding).length = 2 * xs.length := by
  simp [List.length_flatMap, Cell.encoding_length, Nat.mul_comm]

/-! ### The digest of a range of cells -/

/-- R152: the cells of a range are digested over the joined encodings, in ascending index. -/
theorem digestCellsFrom_eq_crcFrom (reg : Word16) (m : Memory) (lo n : Nat) :
    digestCellsFrom reg m lo (lo + n) = crcFrom reg ((List.range' lo n).flatMap fun i => (m.read i).encoding) := by
  simp only [digestCellsFrom, Nat.add_sub_cancel_left, crcFrom, List.foldl_flatMap]

/-- Settles O7: the register as a fold over bits, a cell's two bytes by its status, and the digest of a range as that of
the joined encodings. -/
theorem digestAndCellEncoding : Obligations.DigestAndCellEncoding := by
  rw [Obligations.DigestAndCellEncoding, ← crcBit_eq]
  refine ⟨crcFrom_eq_foldl_bits 0xFFFF, crcFrom_eq_foldl_bits, ?checkText,
    fun c hc => ⟨_, _, c.encoding_eq, ?bin, ?status⟩, Cell.encoding_withSource,
    fun m lo n => ⟨digestCellsFrom_eq_crcFrom 0xFFFF m lo n, ?length⟩, digestCellsFrom_eq_crcFrom,
    fun i k cells => ⟨_, _, _, _, _, rfl⟩⟩
  case checkText => decide +kernel
  case bin => rw [BitVec.toNat_ofNat, Nat.mod_eq_of_lt (by omega)]
  case status =>
    have hcode := c.status.code_le
    rw [BitVec.toNat_ofNat, Nat.mod_eq_of_lt (by omega)]
    cases c.status <;> rfl
  case length => rw [length_flatMap_encoding, List.length_range']

end Sys2Proof.Machine
end

section
/-! PROOFS. What a step can do to the records: `Move` lists the changes of the records one by one, and `exec_sound` says
that every command is a sequence of them that keeps the queue of commands still to come and the law of the links. Each
law of the records is then proved once per move. -/

namespace Sys2Proof.Machine

open Sys2Proof.Safety

/-! ### The records of the part, without links, interpreter flags and the model's own fields -/

/-- Two states hold the same records: recipes, lots, slots, lists, bindings, unit work and waiting completions. -/
structure SameRecords (s t : State) : Prop where
  recipes     : t.recipes = s.recipes
  staging     : t.staging = s.staging
  lots        : t.lots = s.lots
  slots       : t.slots = s.slots
  clearList   : t.clearList = s.clearList
  directory   : t.directory = s.directory
  pinCount    : t.pinCount = s.pinCount
  closeSeq    : t.closeSeq = s.closeSeq
  testers     : t.testers = s.testers
  jobs        : t.jobs = s.jobs
  transfer    : t.transfer = s.transfer
  completions : t.completions = s.completions

theorem SameRecords.rfl {s : State} : SameRecords s s := by constructor <;> rfl

theorem SameRecords.trans {s t u : State} (h : SameRecords s t) (k : SameRecords t u) : SameRecords s u where
  recipes := k.recipes.trans h.recipes
  staging := k.staging.trans h.staging
  lots := k.lots.trans h.lots
  slots := k.slots.trans h.slots
  clearList := k.clearList.trans h.clearList
  directory := k.directory.trans h.directory
  pinCount := k.pinCount.trans h.pinCount
  closeSeq := k.closeSeq.trans h.closeSeq
  testers := k.testers.trans h.testers
  jobs := k.jobs.trans h.jobs
  transfer := k.transfer.trans h.transfer
  completions := k.completions.trans h.completions

theorem sameRecords_place (s : State) (n : Fin 13) (m : Message) : SameRecords s (s.place n m) := by
  constructor <;> simp

theorem sameRecords_setLink (s : State) (n : Fin 13) (l : Link) : SameRecords s (s.setLink n l) := by
  constructor <;> simp

theorem sameRecords_offerAll (s : State) (held : Nat) (alerts : List Alert) :
    SameRecords s (s.offerAll held alerts) := by
  constructor <;> simp

theorem sameRecords_linkError (s : State) (n : Fin 13) (e : LinkError) : SameRecords s (s.linkError n e) := by
  constructor <;> simp

theorem sameRecords_takeFrame (s : State) (n : Fin 12) : SameRecords s (s.takeFrame n) := by
  constructor <;> simp

/-! ### Changes of one cell -/

/-- The cell record `c'` that a test or a force makes of `c`: its bin is the old one or defined in the recipe, and its
attempts rise only within the attempt limit (R68 to R71, R87, R88). -/
structure Judged (r : Recipe) (c c' : Cell) : Prop where
  status   : c'.status = .tested ∨ (c'.status = .forced ∧ c'.source = none)
  bin      : (isTested c = true ∧ c'.bin = c.bin) ∨ (c'.bin ≠ 0 ∧ r.entries[c'.bin].defined = true)
  attempts : c'.attempts ≤ max c.attempts (max 1 r.scalars.attemptLimit)

/-- One change of a cell in the workspace of a slot, with the tally move it makes. The index lies in the map
whenever the map has a cell. -/
inductive CellStep (r : Recipe) : Wafer → Wafer → Prop where
  | shadow (w : Wafer) :
      CellStep r w { w with slot := { w.slot with shadowed := bump 65535 w.slot.shadowed } }
  | keep (w : Wafer) (k : Nat) (c : Cell) (hk : 1 ≤ w.slot.rows → 1 ≤ w.slot.cols → k < w.slot.size)
      (ht : isTested (w.slot.cell k) = true) (hj : Judged r (w.slot.cell k) c) (hb : c.bin = (w.slot.cell k).bin) :
      CellStep r w (w.write k c)
  | add (w : Wafer) (k : Nat) (c : Cell) (hk : 1 ≤ w.slot.rows → 1 ≤ w.slot.cols → k < w.slot.size)
      (ht : (w.slot.cell k).status = .untested) (hj : Judged r (w.slot.cell k) c) :
      CellStep r w ((w.write k c).tally (Tallies.add r c.bin))
  | move (w : Wafer) (k : Nat) (c : Cell) (hk : 1 ≤ w.slot.rows → 1 ≤ w.slot.cols → k < w.slot.size)
      (ht : isTested (w.slot.cell k) = true) (hj : Judged r (w.slot.cell k) c) (hb : c.bin ≠ (w.slot.cell k).bin) :
      CellStep r w ((w.write k c).tally (Tallies.move r (w.slot.cell k).bin c.bin))
  | excludes (w : Wafer) (k : Nat) (hk : 1 ≤ w.slot.rows → 1 ≤ w.slot.cols → k < w.slot.size)
      (ht : (w.slot.cell k).status ≠ .excluded) :
      CellStep r w (excludeCell r k w)
  | includes (w : Wafer) (k : Nat) (hk : 1 ≤ w.slot.rows → 1 ≤ w.slot.cols → k < w.slot.size)
      (ht : (w.slot.cell k).status = .excluded) :
      CellStep r w (includeCell k w)

/-- A sequence of cell changes under one recipe. -/
abbrev CellSteps (r : Recipe) : Wafer → Wafer → Prop := Relation.ReflTransGen (CellStep r)

/-! ### The moves -/

/-- What an alias entry `old` may be replaced by: an unbound entry, or one bound to an OPEN slot or to the slot it was
bound to, whose run length starts again or stays within the run limit. -/
inductive Rebinds (s : State) (old : Binding) : Binding → Prop where
  | unbind : Rebinds s old Binding.unbound
  | bound (i : Fin 64) (e : Binding) (he : e.slot = some i) (hs : s.slots[i].state = .opened ∨ old.slot = some i)
      (hr : e.runLength = 0 ∨ (old.slot = some i ∧ (old.runLength ≤ (s.recipeOfSlot i).scalars.runLimit →
        e.runLength ≤ (s.recipeOfSlot i).scalars.runLimit))) : Rebinds s old e

/-- The checks of OPWF that a pending open or an open at once has passed (R22). -/
structure OpenOk (s : State) (o : PendingOpen) : Prop where
  lot    : s.lots[o.lot].state = .opened
  fresh  : ∀ m ∈ s.lots[o.lot].members, m.wafer ≠ o.wafer
  space  : s.lots[o.lot].members.length < 50
  grid   : gridLaw o.rows o.cols

/-- One change of the records. -/
inductive Move : State → State → Prop where
  /-- The records stay. -/
  | quiet {s t : State} (h : SameRecords s t) : Move s t
  | reset (s : State) : Move s State.reset
  | done (s : State) (d : Done) (rest : List Done) (h : s.completions = d :: rest) :
      Move s { s with completions := rest }
  | stage (s : State) (r : Fin 8) (policy : RetestPolicy) (advice : BreachAdvice) (w : ScalarsWire)
      (entries : List EntryWire) (n : Nat) :
      Move s { s with staging := some ⟨r, storedScalars policy advice w, entries.map storedEntry, n⟩ }
  | commitRecipe (s : State) (r : Fin 8) (g : Staging) (entries : List EntryWire) (hg : s.staging = some g)
      (hu : s.recipeInUse r = false) :
      Move s { s with recipes := s.recipes.set r (committed s.recipes[r] g entries), staging := none }
  | openLot (s : State) (k : Fin 16) (ident : LotId) (r : Fin 8) (hk : s.lots[k].state = .free) :
      Move s (s.setLot k (Lot.fresh ident r))
  | closeLot (s : State) (k : Fin 16) (d : Disposition) (hk : s.lots[k].state = .opened)
      (ha : ∀ m ∈ s.lots[k].members, s.memberActive m = false) :
      Move s ((s.evaluateLot k).1.setLot k { (s.evaluateLot k).1.lots[k] with state := .closed, disposition := d })
  | freeLot (s : State) (k : Fin 16) (hk : s.lots[k].state = .closed) (he : s.lots[k].memberSlots = []) :
      Move s (s.setLot k Lot.free)
  | retireLot (s : State) (k : Fin 16) (tag : Byte) (hk : s.lots[k].state = .closed)
      (hh : ∀ i ∈ s.lots[k].memberSlots, s.slots[i].held = false) (hc : s.completions = []) :
      Move s ((s.lots[k].memberSlots.foldl State.retire s).setLot k
        { (s.lots[k].memberSlots.foldl State.retire s).lots[k] with
          state := .retiring, retirement := some ⟨s.lots[k].memberSlots, tag⟩ })
  | releaseLot (s : State) (k : Fin 16) (hk : s.lots[k].state = .closed) :
      Move s (s.setLot k { s.lots[k] with disposition := .released })
  | openNow (s : State) (i : Fin 64) (o : PendingOpen) (ho : OpenOk s o) (hi : s.slots[i].state = .free) :
      Move s (s.openNow i o)
  | attach (s : State) (i : Fin 64) (o : PendingOpen) (ho : OpenOk s o) (hi : i ∈ s.clearList)
      (hp : s.slots[i].pendingOpen = none) (hc : s.completions = []) : Move s (s.attach i o)
  | endClearing (s : State) (i : Fin 64) (rest : List (Fin 64)) (h : s.clearList = i :: rest) :
      Move s (({ s with clearList := rest }.endClearing i).1.hand ({ s with clearList := rest }.endClearing i).2)
  | leaveRetirement (s : State) (i : Fin 64) : Move s ((s.leaveRetirement i).1.hand (s.leaveRetirement i).2)
  | retire (s : State) (i : Fin 64) (hi : s.slots[i].state = .closed) (hb : s.slots[i].busy = none) :
      Move s (s.retire i)
  | pin (s : State) (i : Fin 64) (hi : s.slots[i].inUse = true) (hp : s.slots[i].pinned = false)
      (hn : s.pinCount < 16) :
      Move s { s.setSlot i { s.slots[i] with pinned := true } with pinCount := s.pinCount + 1 }
  | unpin (s : State) (i : Fin 64) (hi : s.slots[i].inUse = true) (hp : s.slots[i].pinned = true) :
      Move s { s.setSlot i { s.slots[i] with pinned := false } with pinCount := s.pinCount - 1 }
  | releaseWafer (s : State) (i : Fin 64) (hi : s.slots[i].state = .closed) :
      Move s ((s.setSlot i { s.slots[i] with disposition := .released }).setMember s.slots[i].identity
        fun m => { m with disposition := .released })
  | closeWafer (s : State) (i : Fin 64) (tag : Byte) (hi : s.slots[i].state = .opened) (hb : s.slots[i].busy = none)
      (hj : s.jobs.length < 8) (hc : s.completions = []) :
      Move s { (s.unbindAll i).setSlot i { s.slots[i] with state := .closing, busy := some .sweep } with
        jobs := s.jobs ++ [sweepJob s i tag] }
  | endSweep (s : State) (j : Job) (rest : List Job) (h : s.jobs = j :: rest) (hk : j.kind = .sweep) :
      Move s (s.endSweep j rest)
  | reopen (s : State) (c : Instr) (tag : Byte) (i : Fin 64) (hi : s.slots[i].state = .closed)
      (hb : s.slots[i].busy = none) (hl : s.lotOpen s.slots[i].identity = true) :
      Move s (reopen c tag i s).state
  | digest (s : State) (i : Fin 64) (tag : Byte) (start count : Word16) (stop : Nat)
      (hi : s.slots[i].state = .opened ∨ s.slots[i].state = .closed ∨ s.slots[i].state = .exporting)
      (hb : s.slots[i].busy = none) (hj : s.jobs.length < 8) (hc : s.completions = []) :
      Move s { s.setSlot i { s.slots[i] with busy := some .digest } with
        jobs := s.jobs ++ [⟨.digest, i, tag, start, count, start.toNat, stop, 0xFFFF⟩] }
  | endDigest (s : State) (j : Job) (rest : List Job) (h : s.jobs = j :: rest) (hk : j.kind = .digest) :
      Move s (s.endDigest j rest)
  | startExport (s : State) (i : Fin 64) (tag : Byte) (ht : s.transfer = none) (hi : s.slots[i].state = .closed)
      (hb : s.slots[i].busy = none) (hc : s.completions = []) :
      Move s { s.setSlot i { s.slots[i] with state := .exporting, busy := some .transfer } with
        transfer := some ⟨i, tag, chunkCount s.slots[i].size, 0, 0xFFFF, false, .chunks⟩ }
  | placeChunk (s : State) (x : Transfer) (h : s.transfer = some x) (hp : x.phase = .chunks) :
      Move s (s.placeChunk x)
  | endExport (s : State) (x : Transfer) (h : s.transfer = some x) (hp : x.phase = .ending) : Move s (s.endExport x)
  | stopExport (s : State) (x : Transfer) (h : s.transfer = some x) :
      Move s { s with transfer := some { x with stop := true, phase := .ending } }
  | change (s : State) (i : Fin 64) (w : Wafer) (hi : s.slots[i].state = .opened)
      (hw : CellSteps (s.recipeOfSlot i) (s.wafer i) w) : Move s (s.settle i w).1
  | rebind (s : State) (n : Fin 12) (a : Fin 4) (e : Binding) (h : Rebinds s s.testers[n].bindings[a] e) :
      Move s (s.setBinding n a e)
  | writeSites (s : State) (n : Fin 12) (sites : Vector SiteEntry 32) :
      Move s (s.setTester n { s.testers[n] with sites := sites })
  | clearAll (s : State) (hc : s.completions = []) : Move s ((clearAll s).hand (cancelled s))

/-- A sequence of moves. -/
abbrev Moves : State → State → Prop := Relation.ReflTransGen Move

theorem Moves.quiet {s t : State} (h : SameRecords s t) : Moves s t := .single (.quiet h)

end Sys2Proof.Machine
end

section
/-! PROOFS. The law of the links, one update of a link at a time (R163 to R177). -/

namespace Sys2Proof.Machine

/-- Room that an answer finds on CL is left by the alerts offered before it. -/
theorem State.room_offerAll (s : State) (held : Nat) (alerts : List Alert) (h : 1 ≤ s.room cl 0) :
    1 ≤ (s.offerAll held alerts).room cl 0 := by
  induction alerts generalizing s with
  | nil => exact h
  | cons a rest ih =>
    refine ih (s.offer held a) ?_
    obtain ⟨hroom, he⟩ | ⟨_, he⟩ := s.offer_cases held a
    · simp only [he, State.room, State.place_get, Fin.getElem_fin, if_true, Link.push_outbound, List.length_append,
        List.length_cons, List.length_nil] at hroom ⊢
      omega
    · rw [he]
      exact h

/-- Alerts are offered on CL and leave every tester link as it is. -/
theorem State.offerAll_testerLink (s : State) (held : Nat) (alerts : List Alert) (n : Fin 12) :
    (s.offerAll held alerts).links[tl n] = s.links[tl n] := by
  induction alerts generalizing s with
  | nil => rfl
  | cons a rest ih =>
    refine (ih (s.offer held a)).trans ?_
    have hne : (cl : Fin 13).val ≠ (tl n).val := fun k => (Fin.castSucc_lt_last n).ne (Fin.ext k.symm)
    obtain ⟨_, he⟩ | ⟨_, he⟩ := s.offer_cases held a <;> simp [he, hne]

end Sys2Proof.Machine

namespace Sys2Proof.Safety

open Sys2Proof.Machine

/-! ### One link -/

section OneLink

variable {n : Fin 13} {l : Link}

theorem LinkLaw.push (h : LinkLaw n l) (m : Message) (hroom : l.outbound.length < outCap n) :
    LinkLaw n (l.push m) where
  holding := h.holding
  bodies := h.bodies
  outbound := by simpa using hroom
  line := by
    have hline := h.line
    cases hout : l.outbound <;> simp_all [Link.push]
  stopped := h.stopped
  receiver := h.receiver
  counters := h.counters

theorem LinkLaw.sent (h : LinkLaw n l) : LinkLaw n l.sent where
  holding := h.holding
  bodies := h.bodies
  outbound := by
    have := h.outbound
    simp only [Link.sent_outbound, List.length_tail]
    omega
  line := by simp [Link.sent]
  stopped := h.stopped
  receiver := h.receiver
  counters := h.counters

theorem LinkLaw.cleared (h : LinkLaw n l) : LinkLaw n l.cleared :=
  { h with counters := by simp [Link.cleared] }

theorem LinkLaw.fail (h : LinkLaw n l) (e : LinkError) : LinkLaw n (l.fail e) := by
  obtain ⟨hgood, hbad, hover, hdisc⟩ := h.counters
  unfold Link.fail
  split
  · exact { h with counters := ⟨hgood, hbad, Nat.min_le_left _ _, hdisc⟩ }
  · exact { h with counters := ⟨hgood, Nat.min_le_left _ _, hover, hdisc⟩ }

/-- A link that drains keeps the law, for it stops only with its receiver IDLE and nothing held (R171). -/
theorem LinkLaw.drained (h : LinkLaw n l) : LinkLaw n l.drained := by
  unfold Link.drained
  split
  next hd => exact { h with stopped := fun _ => hd.2 }
  next => exact h

/-- A receiver that holds what it may, on a link that is not STOPPED, keeps the law. -/
theorem LinkLaw.withReceiver (h : LinkLaw n l) (hs : l.state ≠ .stopped) {r : Receiver} (hr : receiverLaw r) :
    LinkLaw n { l with receiver := r } :=
  { h with stopped := fun k => absurd k hs, receiver := hr }

theorem receiverLaw_afterFrame (l : Link) : receiverLaw l.afterFrame := by
  unfold Link.afterFrame
  split <;> trivial

/-- A receiver that is not IDLE belongs to a link that is not STOPPED. -/
theorem LinkLaw.running_of_receiver (h : LinkLaw n l) (hr : l.receiver ≠ .idle) : l.state ≠ .stopped :=
  fun k => hr (h.stopped k).1

/-- One frame fewer held keeps the law. -/
theorem LinkLaw.withHoldingTail (h : LinkLaw n l) : LinkLaw n { l with holding := l.holding.tail } :=
  { h with
    holding := by
      have := h.holding
      simp only [List.length_tail]
      omega
    bodies := fun b hb => h.bodies b (List.mem_of_mem_tail hb)
    stopped := fun k => ⟨(h.stopped k).1, by simp [(h.stopped k).2]⟩ }

/-- A frame of 1 to 200 bytes joins a holding queue that has a place (R168). -/
theorem LinkLaw.withFrame (h : LinkLaw n l) (hs : l.state ≠ .stopped) {r : Receiver} (hr : receiverLaw r)
    {body : List Byte} (hb : 1 ≤ body.length ∧ body.length ≤ 200) (hroom : l.holding.length < holdCap n) (good : Nat)
    (hg : good ≤ 65535) :
    LinkLaw n { l with receiver := r, holding := l.holding ++ [body], good := good } :=
  { h with
    holding := by simpa using hroom
    bodies := fun b hm => (List.mem_append.1 hm).elim (h.bodies b) fun k => by
      rw [List.mem_singleton.1 k]
      exact hb
    stopped := fun k => absurd k hs
    receiver := hr
    counters := ⟨hg, h.counters.2⟩ }

/-- Discarding every frame leaves a STOPPED link (R172). -/
theorem LinkLaw.discardAll (h : LinkLaw n l) : LinkLaw n l.discardAll :=
  { h with
    holding := Nat.zero_le _
    bodies := by simp
    stopped := fun _ => ⟨rfl, rfl⟩
    receiver := trivial
    counters := ⟨h.counters.1, h.counters.2.1, h.counters.2.2.1, Nat.min_le_left _ _⟩ }

theorem LinkLaw.start (h : LinkLaw n l) : LinkLaw n l.start := by
  unfold Link.start
  split
  · exact h
  · exact { h with stopped := nofun, receiver := trivial }
  · refine { h with stopped := nofun, receiver := ?_ }
    dsimp only
    split
    · trivial
    · exact h.receiver

theorem LinkLaw.stopDrain (h : LinkLaw n l) : LinkLaw n l.stopDrain := by
  obtain ⟨hgood, hbad, hover, hdisc⟩ := h.counters
  unfold Link.stopDrain
  split
  · apply LinkLaw.drained
    split
    · exact { h with
        stopped := nofun, receiver := trivial, counters := ⟨hgood, hbad, hover, Nat.min_le_left _ _⟩ }
    · exact { h with stopped := nofun, receiver := trivial }
    all_goals exact { h with stopped := nofun }
  all_goals exact h

theorem LinkLaw.stopForce (h : LinkLaw n l) : LinkLaw n l.stopForce := by
  unfold Link.stopForce
  split
  · exact h
  · exact h.discardAll

theorem LinkLaw.restart (h : LinkLaw n l) : LinkLaw n l.restart :=
  { h.discardAll with stopped := nofun, receiver := trivial, counters := by simp [Link.restart] }

end OneLink

/-! ### All links -/

section AllLinks

variable {s t : State}

theorem LinksLaw.of_links (h : LinksLaw s) (ht : t.links = s.links) : LinksLaw t :=
  ⟨fun n => ht ▸ h.links n, by rw [ht]; exact h.control⟩

/-- One link is replaced by one that keeps its law; CL keeps its state, mode and rate (R169, R171, R178). -/
theorem LinksLaw.setLink (h : LinksLaw s) {n : Fin 13} {l : Link} (hl : LinkLaw n l)
    (hc : n = cl → l.state = s.links[cl].state ∧ l.mode = s.links[cl].mode ∧ l.rate = s.links[cl].rate) :
    LinksLaw (s.setLink n l) where
  links m := by
    have hm := h.links m
    by_cases hnm : n = m
    · subst hnm
      simpa using hl
    · simpa [Fin.val_inj, hnm] using hm
  control := by
    have hcl := h.control
    by_cases hn : n = cl
    · obtain ⟨hstate, hmode, hrate⟩ := hc hn
      subst hn
      simpa [hstate, hmode, hrate] using hcl
    · simpa [Fin.val_inj, hn] using hcl

/-- A tester link is replaced by one that keeps its law. -/
theorem LinksLaw.setTesterLink (h : LinksLaw s) {n : Fin 12} {l : Link} (hl : LinkLaw (tl n) l) :
    LinksLaw (s.setLink (tl n) l) :=
  h.setLink hl fun k => absurd k (Fin.castSucc_lt_last n).ne

theorem LinksLaw.place (h : LinksLaw s) {n : Fin 13} (m : Message) (hroom : 1 ≤ s.room n 0) :
    LinksLaw (s.place n m) := by
  unfold State.room at hroom
  refine h.setLink ((h.links n).push m (by omega)) ?_
  rintro rfl
  exact ⟨rfl, rfl, rfl⟩

/-- An offered alert leaves the entry held for an answer free (R187). -/
theorem LinksLaw.offer (h : LinksLaw s) (held : Nat) (a : Alert) : LinksLaw (s.offer held a) := by
  obtain ⟨hroom, he⟩ | ⟨_, he⟩ := s.offer_cases held a
  · rw [he]
    unfold State.room at hroom
    exact h.place _ (by unfold State.room; omega)
  · rw [he]
    exact h.of_links rfl

theorem LinksLaw.offerAll (h : LinksLaw s) (held : Nat) (alerts : List Alert) : LinksLaw (s.offerAll held alerts) := by
  induction alerts generalizing s with
  | nil => exact h
  | cons a rest ih => exact ih (h.offer held a)

theorem LinksLaw.linkError (h : LinksLaw s) (n : Fin 13) (e : LinkError) : LinksLaw (s.linkError n e) := by
  have hset : LinksLaw (s.setLink n (s.links[n].fail e)) := by
    refine h.setLink ((h.links n).fail e) ?_
    rintro rfl
    unfold Link.fail
    split <;> exact ⟨rfl, rfl, rfl⟩
  obtain ⟨_, he⟩ | ⟨_, he⟩ := s.linkError_cases n e <;> rw [he]
  exacts [hset.offer 0 _, hset]

/-- CL is RUNNING, so its draining never ends. -/
theorem LinksLaw.setDrained (h : LinksLaw s) {n : Fin 13} {l : Link} (hl : LinkLaw n l)
    (hc : n = cl → l.state = s.links[cl].state ∧ l.mode = s.links[cl].mode ∧ l.rate = s.links[cl].rate) :
    LinksLaw (s.setDrained n l) := by
  refine h.setLink hl.drained fun k => ?_
  obtain ⟨hstate, hrest⟩ := hc k
  have hrun : l.state ≠ .draining := by rw [hstate, h.control.1]; exact nofun
  simpa [Link.drained, hrun] using ⟨hstate, hrest⟩

theorem LinksLaw.receiverError (h : LinksLaw s) {n : Fin 13} {l : Link} (hl : LinkLaw n l)
    (hc : n = cl → l.state = s.links[cl].state ∧ l.mode = s.links[cl].mode ∧ l.rate = s.links[cl].rate)
    (e : LinkError) : LinksLaw (s.receiverError n l e) :=
  (h.setDrained hl hc).linkError n e

theorem LinksLaw.frameComplete (h : LinksLaw s) {n : Fin 13} {len : Byte} {body : List Byte} {first : Option Byte}
    (hr : s.links[n].receiver = .check len body first) (check : Word16) :
    LinksLaw (s.frameComplete n len body check) := by
  have hn := h.links n
  have hrun : s.links[n].state ≠ .stopped := hn.running_of_receiver (by rw [hr]; exact nofun)
  obtain ⟨hlo, hhi, hlen⟩ : 1 ≤ len.toNat ∧ len.toNat ≤ 200 ∧ body.length = len.toNat :=
    (congrArg receiverLaw hr).mp hn.receiver
  have hrest := hn.withReceiver hrun (receiverLaw_afterFrame s.links[n])
  have hsame : n = cl → s.links[n].state = s.links[cl].state ∧ s.links[n].mode = s.links[cl].mode ∧
      s.links[n].rate = s.links[cl].rate := by
    rintro rfl
    exact ⟨rfl, rfl, rfl⟩
  unfold State.frameComplete
  dsimp only
  split
  · exact h.receiverError hrest hsame _
  · split
    next hroom =>
      exact h.setDrained (hn.withFrame hrun (receiverLaw_afterFrame _) (by omega) hroom _ (Nat.min_le_left _ _)) hsame
    next => exact h.receiverError hrest hsame _

theorem LinksLaw.receive (h : LinksLaw s) (n : Fin 13) (b : Byte) : LinksLaw (s.receive n b) := by
  have hn := h.links n
  have hsame : n = cl → s.links[n].state = s.links[cl].state ∧ s.links[n].mode = s.links[cl].mode ∧
      s.links[n].rate = s.links[cl].rate := by
    rintro rfl
    exact ⟨rfl, rfl, rfl⟩
  have hrun : s.links[n].receiver ≠ .idle → s.links[n].state ≠ .stopped := hn.running_of_receiver
  unfold State.receive
  dsimp only
  split
  case h_1 => exact h
  case h_2 hr =>
    have hrun := hrun (by rw [hr]; exact nofun)
    split
    · exact h.setLink (hn.withReceiver hrun trivial) hsame
    · split
      · exact h
      · exact (h.setLink (hn.withReceiver hrun (r := .hunt true) trivial) hsame).linkError n _
  case h_3 hr =>
    have hrun := hrun (by rw [hr]; exact nofun)
    split
    next hb => exact h.setLink (hn.withReceiver hrun (r := .body b []) ⟨hb.1, hb.2, hb.1⟩) hsame
    next => exact h.receiverError (hn.withReceiver hrun (receiverLaw_afterFrame _)) hsame _
  case h_4 len got hr =>
    have hrun := hrun (by rw [hr]; exact nofun)
    obtain ⟨hlo, hhi, hlen⟩ : 1 ≤ len.toNat ∧ len.toNat ≤ 200 ∧ got.length < len.toNat :=
      (congrArg receiverLaw hr).mp hn.receiver
    split
    next hgot => exact h.setLink (hn.withReceiver hrun ⟨hlo, hhi, hgot⟩) hsame
    next hgot =>
      refine h.setLink (hn.withReceiver hrun ⟨hlo, hhi, ?_⟩) hsame
      simp only [List.length_append, List.length_cons, List.length_nil] at hgot ⊢
      omega
  case h_5 len got hr =>
    have hrun := hrun (by rw [hr]; exact nofun)
    have hlaw : receiverLaw (.check len got none) := hr ▸ hn.receiver
    exact h.setLink (hn.withReceiver hrun (r := .check len got (some b)) hlaw) hsame
  case h_6 len got first hr => exact h.frameComplete hr _

theorem LinksLaw.takeFrame (h : LinksLaw s) (n : Fin 12) : LinksLaw (s.takeFrame n) :=
  (h.setTesterLink (h.links (tl n)).withHoldingTail.drained).of_links rfl

theorem linkLaw_reset (n : Fin 13) : LinkLaw n State.reset.links[n] := by
  by_cases hn : n = cl
  · subst hn
    constructor <;> simp [State.reset, Link.controlReset, cl, receiverLaw]
  · have hlink : State.reset.links[n] = Link.testerReset := by
      have : (12 : Nat) ≠ n.val := fun k => hn (Fin.ext k.symm)
      simp [State.reset, this]
    rw [hlink]
    constructor <;> simp [Link.testerReset, receiverLaw]

theorem linksLaw_reset : LinksLaw State.reset :=
  ⟨linkLaw_reset, rfl, rfl, rfl⟩

/-- The asserted RESET pin makes every receiver IDLE (R178). -/
theorem LinksLaw.heldInReset (h : LinksLaw s) : LinksLaw s.heldInReset where
  links n := by
    have hn := h.links n
    simpa [State.heldInReset] using
      { hn with stopped := fun k => ⟨rfl, (hn.stopped k).2⟩, receiver := trivial :
        LinkLaw n { s.links[n] with receiver := .idle } }
  control := by simpa [State.heldInReset] using h.control

end AllLinks

end Sys2Proof.Safety
end

section
/-! PROOFS. The cell changes that reports and overrides make, as sequences of `CellStep`. -/

namespace Sys2Proof.Machine

open Sys2Proof.Safety

/-! ### Bins, places and rectangles -/

/-- R2: a value names a soft bin exactly when it is the number of a defined bin other than 0. -/
theorem Recipe.binOf_eq_some {r : Recipe} {b : Nat} {bin : Fin 64} :
    r.binOf b = some bin ↔ b = bin.val ∧ bin ≠ 0 ∧ r.entries[bin].defined = true := by
  unfold Recipe.binOf
  split
  next hb =>
    constructor
    · intro h
      split at h
      next hd =>
        obtain rfl := Option.some.inj h
        exact ⟨rfl, fun k => hd.1 (congrArg Fin.val k), hd.2⟩
      next => cases h
    · rintro ⟨rfl, hne, hdef⟩
      exact if_pos ⟨fun k => hne (Fin.ext k), hdef⟩
  next hb =>
    constructor
    · nofun
    · rintro ⟨rfl, -, -⟩
      exact absurd bin.isLt hb

/-- R72: the kept bin is the old one or the posted one. -/
theorem Recipe.keptBin_cases (r : Recipe) (c s : Fin 64) : r.keptBin c s = c ∨ r.keptBin c s = s := by
  unfold Recipe.keptBin
  split
  · exact .inr rfl
  · split
    exacts [.inl rfl, .inr rfl]
  · split
    exacts [.inl rfl, .inr rfl]

/-- R53: a site result that lands on a cell lands within the map. -/
theorem placeOf_lt {sites : Vector SiteEntry 32} {sl : Slot} {x0 y0 : Int} {k index : Nat} {site : Fin 32}
    (h : placeOf sites sl x0 y0 k = .cell site index) : index < sl.size := by
  unfold placeOf at h
  split at h
  next hk =>
    dsimp only at h
    split at h
    next =>
      split at h
      next hin =>
        obtain ⟨hx0, hx, hy0, hy⟩ := hin
        injection h with _ hindex
        rw [← hindex]
        exact cellIndex_lt (by omega) (by omega)
      next => cases h
    next => cases h
  next => cases h

/-- R89: the cells of a clamped rectangle lie within a map that has a cell. -/
theorem rectangle_lt {sl : Slot} {x1 y1 x2 y2 k : Nat} (hr : 1 ≤ sl.rows) (hc : 1 ≤ sl.cols)
    (h : k ∈ rectangle sl x1 y1 x2 y2) : k < sl.size := by
  simp only [rectangle, clampCorner, List.mem_flatMap, List.mem_map, List.mem_range'_1] at h
  obtain ⟨y, hy, x, hx, rfl⟩ := h
  exact cellIndex_lt (by omega) (by omega)

/-! ### What a cell change leaves of the slot -/

@[simp] theorem Wafer.write_slot (w : Wafer) (k : Nat) (c : Cell) :
    (w.write k c).slot = { w.slot with cells := w.slot.cells.write k c } := rfl
@[simp] theorem Wafer.write_totals (w : Wafer) (k : Nat) (c : Cell) : (w.write k c).totals = w.totals := rfl
@[simp] theorem Wafer.write_moved (w : Wafer) (k : Nat) (c : Cell) : (w.write k c).moved = w.moved := rfl
@[simp] theorem Wafer.tally_slot (w : Wafer) (f : Tallies → Tallies) :
    (w.tally f).slot = { w.slot with tallies := f w.slot.tallies } := rfl
@[simp] theorem Wafer.tally_totals (w : Wafer) (f : Tallies → Tallies) : (w.tally f).totals = f w.totals := rfl
@[simp] theorem Wafer.tally_moved (w : Wafer) (f : Tallies → Tallies) : (w.tally f).moved = true := rfl

/-- R90: a cell that is EXCLUDED already stays as it is. -/
theorem excludeCell_of_excluded {r : Recipe} {k : Nat} {w : Wafer} (h : (w.slot.cell k).status = .excluded) :
    excludeCell r k w = w := by
  simp only [excludeCell, h]

/-- R90: an UNTESTED cell is excluded without a tally move. -/
theorem excludeCell_of_untested {r : Recipe} {k : Nat} {w : Wafer} (h : (w.slot.cell k).status = .untested) :
    excludeCell r k w = { w.write k Cell.excludedCell with
      slot := { (w.write k Cell.excludedCell).slot with mapSize := w.slot.mapSize - 1 } } := by
  simp only [excludeCell, h, Wafer.write_slot]

/-- R90: a TESTED or FORCED cell is removed from the tallies when it is excluded. -/
theorem excludeCell_of_tested {r : Recipe} {k : Nat} {w : Wafer} (h : isTested (w.slot.cell k) = true) :
    excludeCell r k w = ({ w.write k Cell.excludedCell with
      slot := { (w.write k Cell.excludedCell).slot with mapSize := w.slot.mapSize - 1 } } : Wafer).tally
        (Tallies.remove r (w.slot.cell k).bin) := by
  cases hs : (w.slot.cell k).status <;> simp_all [isTested, excludeCell]

theorem includeCell_of_excluded {k : Nat} {w : Wafer} (h : (w.slot.cell k).status = .excluded) :
    includeCell k w = { w.write k Cell.blank with
      slot := { (w.write k Cell.blank).slot with mapSize := w.slot.mapSize + 1 } } := by
  simp only [includeCell, h, if_true, Wafer.write_slot]

theorem includeCell_of_not_excluded {k : Nat} {w : Wafer} (h : (w.slot.cell k).status ≠ .excluded) :
    includeCell k w = w := if_neg h

/-- A cell change leaves all of a slot record but its cells, map size, tallies and shadowed count. -/
def SameWafer (a b : Slot) : Prop :=
  b = { a with cells := b.cells, mapSize := b.mapSize, tallies := b.tallies, shadowed := b.shadowed }

theorem SameWafer.trans {a b c : Slot} (h : SameWafer a b) (k : SameWafer b c) : SameWafer a c := by
  unfold SameWafer at *
  rw [k, h]

/-- Every cell is untested, excluded, or tested or forced. -/
theorem isTested_cases (c : Cell) : c.status = .untested ∨ c.status = .excluded ∨ isTested c = true := by
  cases h : c.status <;> simp [isTested, h]

theorem CellStep.sameWafer {r : Recipe} {w v : Wafer} (h : CellStep r w v) : SameWafer w.slot v.slot := by
  cases h with
  | excludes k hk ht =>
    obtain hu | he | ht' := isTested_cases (w.slot.cell k)
    · rw [excludeCell_of_untested hu]; rfl
    · exact absurd he ht
    · rw [excludeCell_of_tested ht']; rfl
  | includes k hk ht => rw [includeCell_of_excluded ht]; rfl
  | _ => rfl

theorem CellSteps.sameWafer {r : Recipe} {w v : Wafer} (h : CellSteps r w v) : SameWafer w.slot v.slot := by
  induction h with
  | refl => rfl
  | tail _ hstep ih => exact ih.trans hstep.sameWafer

theorem SameWafer.geometry {a b : Slot} (h : SameWafer a b) : b.geometry = a.geometry := by rw [h]
theorem SameWafer.identity {a b : Slot} (h : SameWafer a b) : b.identity = a.identity := by rw [h]
theorem SameWafer.recipe {a b : Slot} (h : SameWafer a b) : b.recipe = a.recipe := by rw [h]
theorem SameWafer.state {a b : Slot} (h : SameWafer a b) : b.state = a.state := by rw [h]

theorem SameWafer.pendingOpen {a b : Slot} (h : SameWafer a b) : b.pendingOpen = a.pendingOpen := by rw [h]
theorem SameWafer.pinned {a b : Slot} (h : SameWafer a b) : b.pinned = a.pinned := by rw [h]
theorem SameWafer.limits {a b : Slot} (h : SameWafer a b) : b.limits = a.limits := by rw [h]
theorem SameWafer.busy {a b : Slot} (h : SameWafer a b) : b.busy = a.busy := by rw [h]

theorem SameWafer.rows {a b : Slot} (h : SameWafer a b) : b.rows = a.rows := by rw [Slot.rows, h.geometry, Slot.rows]
theorem SameWafer.cols {a b : Slot} (h : SameWafer a b) : b.cols = a.cols := by rw [Slot.cols, h.geometry, Slot.cols]
theorem SameWafer.size {a b : Slot} (h : SameWafer a b) : b.size = a.size := by
  rw [Slot.size, h.rows, h.cols, Slot.size]

/-! ### The site results of a report -/

/-- R68 to R71: posting a bin to a cell of the map. -/
theorem postCell_steps {r : Recipe} {src : Source} {k : Nat} {b : Fin 64} {w : Wafer} (hk : k < w.slot.size)
    (hb : b ≠ 0 ∧ r.entries[b].defined = true) : CellSteps r w (postCell r src k b w).1 := by
  unfold postCell
  dsimp only
  split
  next hs => exact .refl
  next hs => exact .single (.shadow w)
  next hs =>
    exact .single (.add w k ⟨.tested, b, 1, some src⟩ (fun _ _ => hk) hs ⟨.inl rfl, .inr hb, by simp⟩)
  next hs =>
    have ht : isTested (w.slot.cell k) = true := by simp [isTested, hs]
    split
    next => exact .refl
    next hlim =>
      have hjudged : Judged r (w.slot.cell k)
          ⟨.tested, r.keptBin (w.slot.cell k).bin b, (w.slot.cell k).attempts + 1, some src⟩ := by
        refine ⟨.inl rfl, ?_, ?_⟩
        · obtain hold | hnew := r.keptBin_cases (w.slot.cell k).bin b
          · exact .inl ⟨ht, hold⟩
          · exact .inr (by simpa only [hnew] using hb)
        · simp only [not_le] at hlim
          exact le_max_of_le_right (le_max_of_le_right hlim)
      split
      next hkept => exact .single (.keep w k _ (fun _ _ => hk) ht hjudged hkept)
      next hnew => exact .single (.move w k _ (fun _ _ => hk) ht hjudged hnew)

theorem applySite_steps (r : Recipe) (n : Fin 12) (sites : Vector SiteEntry 32) (x0 y0 : Int) (p : Nat × Nat)
    (w : Wafer) : CellSteps r w (applySite r n sites x0 y0 p w).1 := by
  unfold applySite
  split
  · exact .refl
  · exact .refl
  next hplace =>
    split
    · exact .refl
    next b hb => exact postCell_steps (placeOf_lt hplace) (Recipe.binOf_eq_some.1 hb).2

/-- R75: the site results in the order listed. -/
theorem applySites_steps (r : Recipe) (n : Fin 12) (sites : Vector SiteEntry 32) (x0 y0 : Int)
    (ps : List (Nat × Nat)) (w : Wafer) : CellSteps r w (applySites r n sites x0 y0 ps w).1 := by
  induction ps generalizing w with
  | nil => exact .refl
  | cons p rest ih => exact (applySite_steps r n sites x0 y0 p w).trans (ih _)

/-! ### The overrides -/

theorem forceCell_steps {r : Recipe} {k : Nat} {b : Fin 64} {w : Wafer} (hk : k < w.slot.size)
    (hb : b ≠ 0 ∧ r.entries[b].defined = true) (he : (w.slot.cell k).status ≠ .excluded) :
    CellSteps r w (forceCell r k b w) := by
  have hjudged : Judged r (w.slot.cell k) ⟨.forced, b, (w.slot.cell k).attempts, none⟩ :=
    ⟨.inr ⟨rfl, rfl⟩, .inr hb, le_max_left _ _⟩
  have hforced : ∀ ht : isTested (w.slot.cell k) = true, CellSteps r w
      (if (w.slot.cell k).bin = b then w.write k ⟨.forced, b, (w.slot.cell k).attempts, none⟩
        else (w.write k ⟨.forced, b, (w.slot.cell k).attempts, none⟩).tally
          (Tallies.move r (w.slot.cell k).bin b)) := by
    intro ht
    split
    next hkept => exact .single (.keep w k _ (fun _ _ => hk) ht hjudged hkept.symm)
    next hnew => exact .single (.move w k _ (fun _ _ => hk) ht hjudged (Ne.symm hnew))
  unfold forceCell
  dsimp only
  split
  next hs => exact .single (.add w k _ (fun _ _ => hk) hs hjudged)
  next hs => exact hforced (by simp [isTested, hs])
  next hs => exact hforced (by simp [isTested, hs])
  next hs => exact absurd hs he

/-- R88: a FORCED cell becomes TESTED and keeps its bin. -/
theorem unforce_steps {r : Recipe} {k : Nat} {w : Wafer} (hk : k < w.slot.size)
    (hf : (w.slot.cell k).status = .forced) :
    CellSteps r w (w.write k { w.slot.cell k with status := .tested, source := none }) := by
  have ht : isTested (w.slot.cell k) = true := by simp [isTested, hf]
  exact .single (.keep w k _ (fun _ _ => hk) ht ⟨.inl rfl, .inl ⟨ht, rfl⟩, le_max_left _ _⟩ rfl)

theorem excludeCell_steps {r : Recipe} {k : Nat} {w : Wafer}
    (hk : 1 ≤ w.slot.rows → 1 ≤ w.slot.cols → k < w.slot.size) : CellSteps r w (excludeCell r k w) := by
  by_cases he : (w.slot.cell k).status = .excluded
  · rw [excludeCell_of_excluded he]
  · exact .single (.excludes w k hk he)

theorem includeCell_steps {r : Recipe} {k : Nat} {w : Wafer}
    (hk : 1 ≤ w.slot.rows → 1 ≤ w.slot.cols → k < w.slot.size) : CellSteps r w (includeCell k w) := by
  by_cases he : (w.slot.cell k).status = .excluded
  · exact .single (.includes w k hk he)
  · rw [includeCell_of_not_excluded he]

/-- A list of cells of the map, changed one after the other. -/
theorem foldl_steps {r : Recipe} {f : Wafer → Nat → Wafer} {ks : List Nat} {w : Wafer}
    (hf : ∀ (k : Nat) (v : Wafer), (1 ≤ v.slot.rows → 1 ≤ v.slot.cols → k < v.slot.size) → CellSteps r v (f v k))
    (hk : ∀ k ∈ ks, 1 ≤ w.slot.rows → 1 ≤ w.slot.cols → k < w.slot.size) : CellSteps r w (ks.foldl f w) := by
  induction ks generalizing w with
  | nil => exact .refl
  | cons k rest ih =>
    have hstep := hf k w (hk k List.mem_cons_self)
    have hsame := hstep.sameWafer
    refine hstep.trans (ih fun j hj => ?_)
    rw [hsame.rows, hsame.cols, hsame.size]
    exact hk j (List.mem_cons_of_mem k hj)

theorem moved_includeCell (k : Nat) (w : Wafer) : (includeCell k w).moved = w.moved := by
  unfold includeCell
  split <;> rfl

theorem moved_foldl_includeCell (ks : List Nat) (w : Wafer) :
    (ks.foldl (fun v k => includeCell k v) w).moved = w.moved := by
  induction ks generalizing w with
  | nil => rfl
  | cons k rest ih => exact (ih _).trans (moved_includeCell k w)

/-- Without a tally move nothing is evaluated (R103). -/
theorem State.settle_of_not_moved {s : State} {i : Fin 64} {w : Wafer} (h : w.moved = false) :
    s.settle i w = (s.commit i w, []) := by
  simp only [State.settle, h, Bool.false_eq_true, if_false]

/-- With a tally move the slot and its lot are evaluated (R78 step 1). -/
theorem State.settle_of_moved {s : State} {i : Fin 64} {w : Wafer} (h : w.moved = true) :
    s.settle i w = (s.commit i w).evaluateBoth i := by
  simp only [State.settle, h, if_true]

end Sys2Proof.Machine
end

section
/-! PROOFS. Every command is a sequence of moves that keeps the queue of commands still to come and the law of the
links: one lemma per item, then the three ways a command is taken, then `exec`. -/

namespace Sys2Proof.Machine

open Sys2Proof.Safety

/-! ### What is said of each kind of item -/

/-- The records of a CL command's item, with the DONs it hands, are reached by moves, and links and queue stay. -/
structure ItemSound (s : State) (it : Item) : Prop where
  moves   : Moves s (it.state.hand it.dones)
  links   : it.state.links = s.links
  pending : it.state.pending = s.pending

/-- The records of a report are reached by moves, and links and queue stay. -/
structure ReportSound (s : State) (rp : Report) : Prop where
  moves   : Moves s rp.state
  links   : rp.state.links = s.links
  pending : rp.state.pending = s.pending

/-- A served command keeps the records, the queue and the law of the links, and fills no entry of CL's outbound
queue. -/
structure ServiceSound (s t : State) : Prop where
  records : SameRecords s t
  pending : t.pending = s.pending
  links   : LinksLaw s → LinksLaw t
  room    : t.links[cl].outbound = s.links[cl].outbound

/-- A step: moves of the records, the queue as it was, the law of the links kept. -/
structure Sound (s t : State) : Prop where
  moves   : Moves s t
  pending : t.pending = s.pending
  links   : LinksLaw s → LinksLaw t

theorem Sound.rfl {s : State} : Sound s s := ⟨.refl, Eq.refl _, id⟩

theorem ServiceSound.rfl {s : State} : ServiceSound s s := ⟨.rfl, Eq.refl _, id, Eq.refl _⟩

theorem sameRecords_hand_nil (s : State) : SameRecords s (s.hand []) :=
  { (SameRecords.rfl : SameRecords s s) with completions := by simp }

theorem sameRecords_finish (it : Item) : SameRecords (it.state.hand it.dones) it.finish := by
  constructor <;> simp [Item.finish, State.hand]

theorem sameRecords_served (m : Message) (s : State) : SameRecords s (served m s) := by
  constructor <;> simp [served]

theorem ItemSound.of_moves {s u : State} {alerts : List Alert} {m : Message} (h : Moves s u)
    (hl : u.links = s.links) (hp : u.pending = s.pending) : ItemSound s ⟨u, alerts, m, []⟩ :=
  ⟨h.tail (.quiet (sameRecords_hand_nil u)), hl, hp⟩

theorem ItemSound.of_move {s u : State} {alerts : List Alert} {m : Message} (h : Move s u)
    (hl : u.links = s.links) (hp : u.pending = s.pending) : ItemSound s ⟨u, alerts, m, []⟩ :=
  .of_moves (.single h) hl hp

/-- An item that changes no record. -/
theorem ItemSound.of_same {s : State} {alerts : List Alert} {m : Message} : ItemSound s ⟨s, alerts, m, []⟩ :=
  .of_moves .refl rfl rfl

theorem itemSound_refuse (c : Instr) (tag : Byte) (status : Status) (s : State) :
    ItemSound s (.refuse c tag status s) := .of_same

theorem ReportSound.of_same {s : State} {alerts : List Alert} {m : Message} : ReportSound s ⟨s, alerts, m⟩ :=
  ⟨.refl, rfl, rfl⟩

/-! ### The three ways a command is taken -/

/-- R62: the engine takes a CL command only with a free entry and no waiting completion. -/
theorem engineTakes_room_completions {c : Instr} {s : State} (h : EngineTakes c s) :
    1 ≤ s.room cl 0 ∧ s.completions = [] := by
  have hwork := State.nextSource_eq_some h.2.2
  simp only [State.hasWork, if_true, Bool.and_eq_true, decide_eq_true_eq, List.isEmpty_iff] at hwork
  exact ⟨hwork.1.2, hwork.2⟩

theorem engineCommand_sound {c : Instr} {work : State → Item} {s t : State}
    (h : EngineTakes c s → ItemSound s (work s)) (ht : engineCommand c work s = .next t) : Sound s t := by
  obtain ⟨htakes, rfl⟩ | ⟨_, rfl⟩ := engineCommand_cases ht
  · obtain ⟨hmoves, hlinks, hpending⟩ := h htakes
    refine ⟨hmoves.trans (Moves.quiet (sameRecords_finish _)), ?_, fun hlaw => ?_⟩
    · simpa [Item.finish, State.hand] using hpending
    · have hroom : 1 ≤ ((work s).state.offerAll 1 (work s).alerts).room cl 0 := by
        refine State.room_offerAll _ _ _ ?_
        simpa only [State.room, hlinks] using (engineTakes_room_completions htakes).1
      exact (((hlaw.of_links hlinks).offerAll 1 _).place _ hroom).of_links rfl
  · exact .rfl

theorem serveCommand_sound {c : Instr} {work : State → State × Message} {s t : State}
    (h : ServiceSound s (work s).1) (ht : serveCommand c work s = .next t) : Sound s t := by
  obtain ⟨hserves, rfl⟩ | ⟨_, rfl⟩ := serveCommand_cases ht
  · obtain ⟨hrecords, hpending, hlinks, hroom⟩ := h
    refine ⟨Moves.quiet (hrecords.trans (sameRecords_served _ _)), hpending, fun hlaw => ?_⟩
    · refine ((hlinks hlaw).place _ ?_).of_links rfl
      simpa only [State.room, hroom] using hserves.2.2
  · exact .rfl

@[simp] theorem Link.drained_outbound (l : Link) : l.drained.outbound = l.outbound := by
  unfold Link.drained
  split <;> rfl

theorem engineReport_sound {n : Fin 12} {c : Instr} {work : State → Report} {s t : State}
    (h : ReportSound (s.takeFrame n) (work (s.takeFrame n))) (ht : engineReport n c work s = .next t) : Sound s t := by
  obtain ⟨⟨body, htakes, _⟩, rfl⟩ | ⟨_, rfl⟩ := engineReport_cases ht
  · obtain ⟨hmoves, hlinks, hpending⟩ := h
    refine ⟨.head (.quiet (sameRecords_takeFrame s n)) (hmoves.trans (Moves.quiet
      ((sameRecords_offerAll _ _ _).trans (sameRecords_place _ _ _)))), ?_, fun hlaw => ?_⟩
    · simpa using hpending
    · have hroom : 1 ≤ s.room (tl n) 0 := by
        have hwork := State.nextSource_eq_some htakes.2.1
        have hne : tl n ≠ cl := (Fin.castSucc_lt_last n).ne
        simp only [State.hasWork, hne, if_false, Bool.and_eq_true, decide_eq_true_eq] at hwork
        exact hwork.2
      refine (((hlaw.takeFrame n).of_links hlinks).offerAll 0 _).place _ ?_
      simp only [State.room, State.offerAll_testerLink, hlinks] at hroom ⊢
      simpa [State.takeFrame] using hroom
  · exact .rfl

/-! ### Items that begin with a slot, a lot or an alias -/

section Wrappers

variable {c : Instr} {tag : Byte} {s : State}

theorem slotItem_sound {slot : Byte} {work : Fin 64 → State → Item} (h : ∀ i, ItemSound s (work i s)) :
    ItemSound s (slotItem c tag slot work s) := by
  unfold slotItem
  split
  exacts [itemSound_refuse .., h _]

theorem overrideItem_sound {slot : Byte} {work : Fin 64 → State → Item}
    (h : ∀ i : Fin 64, s.slots[i].state = .opened → ItemSound s (work i s)) :
    ItemSound s (overrideItem c tag slot work s) := by
  unfold overrideItem
  split
  · exact itemSound_refuse ..
  · split
    next hopen => exact h _ hopen
    next => exact itemSound_refuse ..

theorem lotItem_sound {ident : LotId} {work : Fin 16 → State → Item} (h : ∀ k, ItemSound s (work k s)) :
    ItemSound s (lotItem c tag ident work s) := by
  unfold lotItem
  split
  exacts [itemSound_refuse .., h _]

theorem aliasItem_sound {link aliasNo : Byte} {work : Fin 12 → Fin 4 → State → Item}
    (h : ∀ n a, ItemSound s (work n a s)) : ItemSound s (aliasItem c tag link aliasNo work s) := by
  unfold aliasItem
  split
  exacts [h _ _, itemSound_refuse ..]

end Wrappers

/-! ### Recipes and lots -/

section Items

variable (c : Instr) (tag : Byte) {s : State}

theorem ldrcPart1Item_sound (recipe part : Byte) (w : ScalarsWire) (entries : List EntryWire) :
    ItemSound s (ldrcPart1Item c tag recipe part w entries s) := by
  unfold ldrcPart1Item
  split
  · split
    · exact itemSound_refuse ..
    · exact .of_move (.stage s _ _ _ w entries _) rfl rfl
  · exact itemSound_refuse ..

theorem ldrcPart2Item_sound (recipe part : Byte) (entries : List EntryWire) :
    ItemSound s (ldrcPart2Item c tag recipe part entries s) := by
  unfold ldrcPart2Item
  split
  · split
    next g hg =>
      split
      · split
        next => exact itemSound_refuse ..
        next huse => exact .of_move (.commitRecipe s _ g entries hg (by simpa using huse)) rfl rfl
      · exact itemSound_refuse ..
    next => exact itemSound_refuse ..
  · exact itemSound_refuse ..

theorem rdrcItem_sound (recipe part : Byte) : ItemSound s (rdrcItem c tag recipe part s) := by
  unfold rdrcItem
  split
  · dsimp only
    split
    · exact .of_same
    · split
      exacts [.of_same, itemSound_refuse ..]
  · exact itemSound_refuse ..

theorem opltItem_sound (ident : LotId) (recipe : Byte) : ItemSound s (opltItem c tag ident recipe s) := by
  unfold opltItem
  split
  · exact itemSound_refuse ..
  · split
    · exact itemSound_refuse ..
    · split
      · exact itemSound_refuse ..
      · split
        · exact itemSound_refuse ..
        next k hfree =>
          split
          · exact .of_move (.openLot s k ident _ (by simpa using List.find?_some hfree)) rfl rfl
          · exact itemSound_refuse ..

theorem clltWork_sound (k : Fin 16) : ItemSound s (clltWork c tag k s) := by
  unfold clltWork
  split
  · exact itemSound_refuse ..
  next hopen =>
    split
    · exact itemSound_refuse ..
    next hactive =>
      refine .of_move (.closeLot s k _ (not_not.1 hopen) fun m hm => ?_) rfl rfl
      by_contra hm'
      exact hactive (List.any_eq_true.2 ⟨m, hm, by simpa using hm'⟩)

theorem foldl_retire_links (is : List (Fin 64)) (s : State) : (is.foldl State.retire s).links = s.links := by
  induction is generalizing s with
  | nil => rfl
  | cons i rest ih => exact (ih (s.retire i)).trans (State.retire_links s i)

theorem foldl_retire_pending (is : List (Fin 64)) (s : State) : (is.foldl State.retire s).pending = s.pending := by
  induction is generalizing s with
  | nil => rfl
  | cons i rest ih => exact (ih (s.retire i)).trans (State.retire_pending s i)

theorem rtltWork_sound (k : Fin 16) (hc : s.completions = []) : ItemSound s (rtltWork c tag k s) := by
  unfold rtltWork
  dsimp only
  split
  · exact itemSound_refuse ..
  next hclosed =>
    split
    · exact itemSound_refuse ..
    next hheld =>
      split
      next hnone => exact .of_move (.freeLot s k (not_not.1 hclosed) (List.isEmpty_iff.1 hnone)) rfl rfl
      next =>
        refine .of_move (.retireLot s k tag (not_not.1 hclosed) (fun i hi => ?_) hc) ?_ ?_
        · by_contra hi'
          exact hheld (List.any_eq_true.2 ⟨i, hi, by simpa using hi'⟩)
        · exact foldl_retire_links _ s
        · exact foldl_retire_pending _ s

theorem lsumItem_sound (ident : LotId) (first last position : Byte) :
    ItemSound s (lsumItem c tag ident first last position s) := by
  unfold lsumItem
  split
  · exact itemSound_refuse ..
  · refine lotItem_sound fun k => ?_
    split
    exacts [.of_same, itemSound_refuse ..]

theorem rlhdLotWork_sound (k : Fin 16) : ItemSound s (rlhdLotWork c tag k s) := by
  unfold rlhdLotWork
  split
  next h => exact .of_move (.releaseLot s k h.1) rfl rfl
  next => exact itemSound_refuse ..

/-! ### The Map Store -/

/-- R26: a reclaim candidate is CLOSED and carries no busy marker. -/
theorem Slot.reclaimable_iff {sl : Slot} :
    sl.reclaimable = true ↔ sl.state = .closed ∧ sl.exported = true ∧ sl.pinned = false ∧ sl.busy = none := by
  simp [Slot.reclaimable, and_assoc]

theorem foldl_olderClosed_mem (s : State) (is : List (Fin 64)) (best : Option (Fin 64)) (i : Fin 64)
    (h : is.foldl (olderClosed s) best = some i) : i ∈ is ∨ best = some i := by
  induction is generalizing best with
  | nil => exact .inr h
  | cons j rest ih =>
    obtain hmem | hbest := ih _ h
    · exact .inl (List.mem_cons_of_mem j hmem)
    · unfold olderClosed at hbest
      split at hbest
      next => exact .inl (by simp [Option.some.inj hbest])
      next b =>
        split at hbest
        · exact .inl (by simp [Option.some.inj hbest])
        · exact .inr hbest

theorem State.reclaimSlot_reclaimable {s : State} {i : Fin 64} (h : s.reclaimSlot = some i) :
    s.slots[i].reclaimable = true := by
  obtain hmem | hnone := foldl_olderClosed_mem s _ _ i h
  · exact (List.mem_filter.1 hmem).2
  · cases hnone

/-- A member entry changed in its lot's list (R120). -/
theorem State.setMember_get (s : State) (d : Identity) (f : Member → Member) (j : Nat) (h : j < 16) :
    (s.setMember (some d) f).lots[j] = if d.lot.val = j then
      { s.lots[j] with members := s.lots[j].members.map fun m => if m.wafer = d.wafer then f m else m }
      else s.lots[j] := by
  simp only [State.setMember, State.setLot_get, Fin.getElem_fin]
  split
  next hj => subst hj; rfl
  next => rfl

/-- R32: the lots after a retirement: the slot's lot has its tallies in the carry and its member entry retired. -/
theorem State.retire_lots {s : State} {i : Fin 64} {d : Identity} (hd : s.slots[i].identity = some d) (j : Nat)
    (h : j < 16) : (s.retire i).lots[j] = if d.lot.val = j then
      { s.lots[j] with
        carry := s.lots[j].carry.plus s.slots[i].tallies
        members := s.lots[j].members.map fun m =>
          if m.wafer = d.wafer then { m with slot := none, retired := true } else m }
      else s.lots[j] := by
  obtain ⟨hnone, _⟩ | ⟨d', hd', hfold⟩ := s.foldCarry_cases i
  · rw [hnone] at hd
    cases hd
  · obtain rfl := Option.some.inj (hd'.symm.trans hd)
    rw [State.retire_eq, State.enterClearing_lots, hd, State.setMember_get, hfold, State.setLot_get]
    split
    next hj => subst hj; rfl
    next => rfl

theorem State.retire_lots_of_none {s : State} {i : Fin 64} (hd : s.slots[i].identity = none) :
    (s.retire i).lots = s.lots := by
  obtain ⟨_, hfold⟩ | ⟨d', hd', _⟩ := s.foldCarry_cases i
  · rw [State.retire_eq, State.enterClearing_lots, hd, hfold, State.setMember]
  · rw [hd] at hd'
    cases hd'

/-- The checks of OPWF hold after a retirement too: it changes members, but no wafer number (R32). -/
theorem OpenOk.retire {o : PendingOpen} (h : OpenOk s o) (i : Fin 64) : OpenOk (s.retire i) o := by
  cases hid : s.slots[i].identity with
  | none =>
    obtain ⟨hlot, hfresh, hspace, hgrid⟩ := h
    constructor <;> simpa only [State.retire_lots_of_none hid]
  | some d =>
    by_cases hd : d.lot = o.lot
    · obtain ⟨hlot, hfresh, hspace, hgrid⟩ := h
      refine ⟨?_, ?_, ?_, hgrid⟩ <;>
        simp only [Fin.getElem_fin, State.retire_lots hid, hd, if_true, List.length_map, List.forall_mem_map] <;>
        [exact hlot; skip; exact hspace]
      intro m hm
      split
      exacts [hfresh m hm, hfresh m hm]
    · have hne : d.lot.val ≠ o.lot.val := fun k => hd (Fin.ext k)
      obtain ⟨hlot, hfresh, hspace, hgrid⟩ := h
      constructor <;> simpa only [Fin.getElem_fin, State.retire_lots hid, if_neg hne]

theorem opwfItem_sound (ident : LotId) (wafer : Byte) (rows cols : Word16) (round forceHold : Byte)
    (hc : s.completions = []) : ItemSound s (opwfItem c tag ident wafer rows cols round forceHold s) := by
  unfold opwfItem
  split
  · exact itemSound_refuse ..
  next k hk =>
    dsimp only
    split
    · exact itemSound_refuse ..
    next hopen =>
      split
      · exact itemSound_refuse ..
      next hfresh =>
        split
        · exact itemSound_refuse ..
        next hspace =>
          split
          · exact itemSound_refuse ..
          next hrange =>
            have hok : OpenOk s ⟨k, wafer.toNat, rows.toNat, cols.toNat, yesByte round, yesByte forceHold, tag⟩ := by
              refine ⟨not_not.1 hopen, fun m hm hw => hfresh (List.any_eq_true.2 ⟨m, hm, by simpa using hw⟩),
                not_le.1 hspace, ?_⟩
              obtain ⟨_, _, hgrid⟩ := not_not.1 hrange
              exact hgrid
            unfold State.openPlace
            split
            next i hplace =>
              split at hplace
              next j hfind =>
                cases hplace
                exact .of_move (.openNow s i _ hok (by simpa using List.find?_some hfind)) rfl rfl
              next =>
                split at hplace
                · cases hplace
                · split at hplace <;> cases hplace
            next i hplace =>
              split at hplace
              · cases hplace
              · split at hplace
                next j hfind =>
                  cases hplace
                  exact .of_move (.attach s i _ hok (List.mem_of_find?_eq_some hfind)
                    (by simpa using List.find?_some hfind) hc) rfl rfl
                next => split at hplace <;> cases hplace
            next i hplace =>
              split at hplace
              · cases hplace
              · split at hplace
                · cases hplace
                · split at hplace
                  next j hreclaim =>
                    cases hplace
                    obtain ⟨hclosed, _, _, hbusy⟩ := Slot.reclaimable_iff.1 (State.reclaimSlot_reclaimable hreclaim)
                    refine .of_moves (.tail (.single (.retire s i hclosed hbusy))
                      (.attach _ i _ (hok.retire i) ?_ ?_ ?_)) ?_ ?_
                    · simp [State.retire_eq]
                    · simp [State.retire_get, Slot.empty]
                    · simpa using hc
                    · simp
                    · simp
                  next => cases hplace
            next => exact itemSound_refuse ..

theorem rtwfWork_sound (i : Fin 64) : ItemSound s (rtwfWork c tag i s) := by
  unfold rtwfWork
  dsimp only
  split
  · exact itemSound_refuse ..
  · split
    · exact itemSound_refuse ..
    next hclosed =>
      split
      · exact itemSound_refuse ..
      next hbusy => exact .of_move (.retire s i (not_not.1 hclosed) (by simpa using hbusy)) (by simp) (by simp)

theorem pinsWork_sound (i : Fin 64) : ItemSound s (pinsWork c tag i s) := by
  unfold pinsWork
  dsimp only
  split
  · exact itemSound_refuse ..
  next huse =>
    split
    · exact .of_same
    next hpin =>
      split
      · exact itemSound_refuse ..
      next hcount =>
        exact .of_move (.pin s i (by simpa using huse) (by simpa using hpin) (not_le.1 hcount)) rfl rfl

theorem upinWork_sound (i : Fin 64) : ItemSound s (upinWork c tag i s) := by
  unfold upinWork
  dsimp only
  split
  · exact itemSound_refuse ..
  next huse =>
    split
    next hpin => exact .of_move (.unpin s i (by simpa using huse) hpin) rfl rfl
    next => exact .of_same

theorem fndwItem_sound (ident : LotId) (wafer : Byte) : ItemSound s (fndwItem c tag ident wafer s) := by
  unfold fndwItem
  split
  exacts [itemSound_refuse .., .of_same]

theorem wsumWork_sound (first last : Byte) (i : Fin 64) : ItemSound s (wsumWork c tag first last i s) := by
  unfold wsumWork
  dsimp only
  split
  · exact itemSound_refuse ..
  · split
    exacts [itemSound_refuse .., .of_same]

theorem rdclWork_sound (y x count : Byte) (i : Fin 64) : ItemSound s (rdclWork c tag y x count i s) := by
  unfold rdclWork
  dsimp only
  split
  · exact itemSound_refuse ..
  · split
    exacts [.of_same, itemSound_refuse ..]

theorem rlhdWaferWork_sound (i : Fin 64) : ItemSound s (rlhdWaferWork c tag i s) := by
  unfold rlhdWaferWork
  dsimp only
  split
  next h => exact .of_move (.releaseWafer s i h.1) (by simp) (by simp)
  next => exact itemSound_refuse ..

/-! ### Closing, retest and export -/

theorem State.sweepRoom_iff : s.sweepRoom = true ↔ s.jobs.length < 8 := by
  simp [State.sweepRoom]

theorem clwfWork_sound (i : Fin 64) (hc : s.completions = []) : ItemSound s (clwfWork c tag i s) := by
  unfold clwfWork
  dsimp only
  split
  · exact itemSound_refuse ..
  next hopen =>
    split
    · exact itemSound_refuse ..
    next hbusy =>
      split
      · exact itemSound_refuse ..
      next hroom =>
        exact .of_move (.closeWafer s i tag (not_not.1 hopen) (by simpa using hbusy)
          (State.sweepRoom_iff.1 (by simpa using hroom)) hc) rfl rfl

theorem rpwfWork_sound (i : Fin 64) : ItemSound s (rpwfWork c tag i s) := by
  unfold rpwfWork
  dsimp only
  split
  · exact itemSound_refuse ..
  · split
    · exact itemSound_refuse ..
    next hclosed =>
      split
      · exact itemSound_refuse ..
      next hbusy =>
        split
        · exact itemSound_refuse ..
        next hlot =>
          exact .of_move (.reopen s c tag i (not_not.1 hclosed) (by simpa using hbusy) (by simpa using hlot))
            (by simp) (by simp)

theorem dgstWork_sound (start count : Word16) (i : Fin 64) (hc : s.completions = []) :
    ItemSound s (dgstWork c tag start count i s) := by
  unfold dgstWork
  dsimp only
  split
  · exact itemSound_refuse ..
  next hstate =>
    split
    · exact itemSound_refuse ..
    next hbusy =>
      split
      · exact itemSound_refuse ..
      next hroom =>
        split
        · exact itemSound_refuse ..
        · exact .of_move (.digest s i tag start count _ (by tauto) (by simpa using hbusy)
            (State.sweepRoom_iff.1 (by simpa using hroom)) hc) rfl rfl

theorem xprtWork_sound (i : Fin 64) (hc : s.completions = []) : ItemSound s (xprtWork c tag i s) := by
  unfold xprtWork
  dsimp only
  split
  · exact itemSound_refuse ..
  next hidle =>
    split
    · exact itemSound_refuse ..
    next hclosed =>
      split
      · exact itemSound_refuse ..
      next hbusy =>
        exact .of_move (.startExport s i tag (by simpa using hidle) (not_not.1 hclosed) (by simpa using hbusy) hc)
          rfl rfl

theorem xstpItem_sound : ItemSound s (xstpItem c tag s) := by
  unfold xstpItem
  split
  · exact itemSound_refuse ..
  next x hx => exact .of_move (.stopExport s x hx) rfl rfl

/-! ### Overrides -/

/-- A change of cells, evaluated when it moved a tally, is one move. -/
theorem settle_sound {i : Fin 64} {w : Wafer} {alerts : List Alert} {m : Message} (hi : s.slots[i].state = .opened)
    (hw : CellSteps (s.recipeOfSlot i) (s.wafer i) w) : ItemSound s ⟨(s.settle i w).1, alerts, m, []⟩ :=
  .of_move (.change s i w hi hw) (by simp) (by simp)

/-- A change of cells without a tally move. -/
theorem commit_sound {i : Fin 64} {w : Wafer} {alerts : List Alert} {m : Message} (hi : s.slots[i].state = .opened)
    (hw : CellSteps (s.recipeOfSlot i) (s.wafer i) w) (hm : w.moved = false) :
    ItemSound s ⟨s.commit i w, alerts, m, []⟩ := by
  have h := settle_sound (alerts := alerts) (m := m) hi hw
  rwa [State.settle_of_not_moved hm] at h

theorem frclWork_sound (x y bin : Byte) (i : Fin 64) (hi : s.slots[i].state = .opened) :
    ItemSound s (frclWork c tag x y bin i s) := by
  unfold frclWork
  dsimp only
  split
  next hin =>
    split
    · exact itemSound_refuse ..
    next hexc =>
      split
      · exact itemSound_refuse ..
      next b hb => exact settle_sound hi (forceCell_steps (cellIndex_lt hin.1 hin.2) (Recipe.binOf_eq_some.1 hb).2 hexc)
  next => exact itemSound_refuse ..

theorem ufclWork_sound (x y : Byte) (i : Fin 64) (hi : s.slots[i].state = .opened) :
    ItemSound s (ufclWork c tag x y i s) := by
  unfold ufclWork
  dsimp only
  split
  next hin =>
    split
    next hforced => exact commit_sound hi (unforce_steps (cellIndex_lt hin.1 hin.2) hforced) rfl
    next => exact itemSound_refuse ..
  next => exact itemSound_refuse ..

theorem exclWork_sound (x1 y1 x2 y2 : Byte) (i : Fin 64) (hi : s.slots[i].state = .opened) :
    ItemSound s (exclWork c tag x1 y1 x2 y2 i s) :=
  settle_sound hi (foldl_steps (fun _ _ => excludeCell_steps) fun _ hk hr hcols => rectangle_lt hr hcols hk)

theorem inclWork_sound (x1 y1 x2 y2 : Byte) (i : Fin 64) (hi : s.slots[i].state = .opened) :
    ItemSound s (inclWork c tag x1 y1 x2 y2 i s) :=
  commit_sound hi (foldl_steps (fun _ _ => includeCell_steps) fun _ hk hr hcols => rectangle_lt hr hcols hk)
    (moved_foldl_includeCell _ _)

/-! ### Bindings and site maps -/

theorem rebind_sound {n : Fin 12} {a : Fin 4} {e : Binding} {alerts : List Alert} {m : Message}
    (h : Rebinds s s.testers[n].bindings[a] e) : ItemSound s ⟨s.setBinding n a e, alerts, m, []⟩ :=
  .of_move (.rebind s n a e h) rfl rfl

theorem bindWork_sound (slot : Byte) (n : Fin 12) (a : Fin 4) : ItemSound s (bindWork c tag slot n a s) := by
  unfold bindWork
  split
  · exact itemSound_refuse ..
  next i hslot =>
    dsimp only
    split
    next hopen => exact rebind_sound (.bound i _ rfl (.inl hopen) (.inl rfl))
    next => exact itemSound_refuse ..

theorem ubndWork_sound (n : Fin 12) (a : Fin 4) : ItemSound s (ubndWork c tag n a s) := rebind_sound .unbind

theorem rsmbWork_sound (n : Fin 12) (a : Fin 4) : ItemSound s (rsmbWork c tag n a s) := by
  unfold rsmbWork
  dsimp only
  split
  next hbound =>
    obtain ⟨i, hi⟩ := Option.isSome_iff_exists.1 hbound
    exact rebind_sound (.bound i _ hi (.inr hi) (.inl rfl))
  next => exact .of_same

theorem stmpItem_sound (link count : Byte) (entries : List SiteWire) :
    ItemSound s (stmpItem c tag link count entries s) := by
  unfold stmpItem
  split
  · exact itemSound_refuse ..
  · split
    exacts [.of_move (.writeSites s _ _) rfl rfl, itemSound_refuse ..]

theorem clraItem_sound (hc : s.completions = []) : ItemSound s (clraItem c tag s) :=
  ⟨.single (.clearAll s hc), rfl, rfl⟩

end Items

end Sys2Proof.Machine
end

section
/-! PROOFS. Reports, served commands and events are moves too, and with them every command: the inversion of `exec` from
which each law of the part is proved. -/

namespace Sys2Proof.Machine

open Sys2Proof.Safety

/-! ### Reports -/

section Reports

variable {s : State}

/-- R52: an alias that resolves names an entry bound to an OPEN slot. -/
theorem State.resolve_eq_slot {n : Fin 12} {aliasNo : Byte} {a : Fin 4} {i : Fin 64}
    (h : s.resolve n aliasNo = .slot a i) :
    aliasOf aliasNo = some a ∧ s.testers[n].bindings[a].slot = some i ∧ s.slots[i].state = .opened := by
  unfold State.resolve at h
  split at h
  · cases h
  next b hb =>
    split at h
    · cases h
    next j hj =>
      split at h
      next hopen =>
        cases h
        exact ⟨hb, hj, hopen⟩
      next => cases h

/-- R56: a counted site result keeps the binding, and its run length stays within the run limit. -/
theorem runStep_slot (r : Recipe) (e : Binding) (b : Fin 64) : (runStep r e b).slot = e.slot := by
  unfold runStep
  dsimp only
  split
  · rfl
  · split <;> rfl

theorem runStep_runLength {r : Recipe} {e : Binding} (b : Fin 64) (h : e.runLength ≤ r.scalars.runLimit) :
    (runStep r e b).runLength ≤ r.scalars.runLimit := by
  unfold runStep
  dsimp only
  split
  · exact h
  next hlimit =>
    split
    · exact Nat.zero_le _
    · dsimp only
      split
      · exact Nat.min_le_right _ _
      · omega

theorem runSteps_slot (r : Recipe) (n : Fin 12) (a : Fin 4) (i : Fin 64) (bs : List (Fin 64)) (e : Binding) :
    (runSteps r n a i bs e).1.slot = e.slot := by
  induction bs generalizing e with
  | nil => rfl
  | cons b rest ih => exact (ih _).trans (runStep_slot r e b)

theorem runSteps_runLength {r : Recipe} {n : Fin 12} {a : Fin 4} {i : Fin 64} (bs : List (Fin 64)) {e : Binding}
    (h : e.runLength ≤ r.scalars.runLimit) : (runSteps r n a i bs e).1.runLength ≤ r.scalars.runLimit := by
  induction bs generalizing e with
  | nil => exact h
  | cons b rest ih => exact ih (runStep_runLength b h)

/-- What the workspace of a slot leaves of it when it is written back and evaluated. -/
theorem evaluateBoth_slots (s : State) (i : Fin 64) : ∃ l : LimitStates,
    (s.evaluateBoth i).1.slots = s.slots.set i { s.slots[i] with limits := l } := by
  unfold State.evaluateBoth
  split
  · exact ⟨_, State.evaluateLot_slots _ _⟩
  · exact ⟨_, rfl⟩

theorem commit_slots (s : State) (i : Fin 64) (w : Wafer) : (s.commit i w).slots = s.slots.set i w.slot := by
  rw [State.commit]
  obtain ⟨_, he⟩ | ⟨d, _, he⟩ := (s.readAhead i).putWafer_cases i w <;> rw [he] <;> simp [State.setSlot]

/-- R64, R78: the slots after a change of cells: the slot's record is the workspace's but for its limit states. -/
theorem settle_slots (s : State) (i : Fin 64) (w : Wafer) : ∃ l : LimitStates,
    (s.settle i w).1.slots = s.slots.set i { w.slot with limits := l } := by
  cases hm : w.moved with
  | false =>
    refine ⟨w.slot.limits, ?_⟩
    rw [State.settle_of_not_moved hm]
    exact commit_slots s i w
  | true =>
    obtain ⟨l, hl⟩ := evaluateBoth_slots (s.commit i w) i
    refine ⟨l, ?_⟩
    rw [State.settle_of_moved hm, hl, commit_slots]
    simp

theorem settle_slot (s : State) (i : Fin 64) (w : Wafer) : ∃ l : LimitStates,
    (s.settle i w).1.slots[i] = { w.slot with limits := l } := by
  obtain ⟨l, hl⟩ := settle_slots s i w
  exact ⟨l, by simp [hl]⟩

/-- R7: a change of cells leaves the slot's recipe. -/
theorem settle_recipeOfSlot (s : State) (i : Fin 64) (w : Wafer) :
    (s.settle i w).1.recipeOfSlot i = s.recipeAt w.slot.recipe := by
  obtain ⟨l, hl⟩ := settle_slot s i w
  rw [State.recipeOfSlot, hl]
  simp only [State.recipeAt, State.settle_recipes]

theorem tdrApply_sound (n : Fin 12) (aliasNo : Byte) (x0 y0 : Word16) (results : List Byte) {a : Fin 4} {i : Fin 64}
    (hb : s.testers[n].bindings[a].slot = some i) (hi : s.slots[i].state = .opened) :
    ReportSound s (tdrApply n aliasNo x0 y0 results a i s) := by
  have hsteps := applySites_steps (s.recipeOfSlot i) n s.testers[n].sites x0.toInt y0.toInt (siteResults results)
    (s.wafer i)
  refine ⟨.tail (.single (.change s i _ hi hsteps)) (.rebind _ n a _ ?_), ?_, ?_⟩
  · rw [State.settle_testers]
    refine .bound i _ ((runSteps_slot ..).trans hb) (.inr hb) (.inr ⟨hb, fun hlen => ?_⟩)
    rw [settle_recipeOfSlot, hsteps.sameWafer.recipe] at hlen ⊢
    exact runSteps_runLength _ hlen
  · simp [tdrApply]
  · simp [tdrApply]

theorem tdrItem_sound (n : Fin 12) (aliasNo : Byte) (x0 y0 : Word16) (count : Byte) (results : List Byte) :
    ReportSound s (tdrItem n aliasNo x0 y0 count results s) := by
  unfold tdrItem
  split
  · split
    case h_4 a i h =>
      obtain ⟨_, hb, hi⟩ := State.resolve_eq_slot h
      exact tdrApply_sound n aliasNo x0 y0 results hb hi
    all_goals exact .of_same
  · exact .of_same

theorem clqItem_sound (n : Fin 12) (aliasNo x y : Byte) : ReportSound s (clqItem n aliasNo x y s) := by
  unfold clqItem
  split
  case h_4 =>
    dsimp only
    split <;> exact .of_same
  all_goals exact .of_same

theorem rtpItem_sound (n : Fin 12) (aliasNo : Byte) (start : Word16) (maxCount : Byte) :
    ReportSound s (rtpItem n aliasNo start maxCount s) := by
  unfold rtpItem
  split <;> exact .of_same

end Reports

/-! ### Served commands -/

section Services

variable {s : State} (c : Instr) (tag : Byte)

theorem serviceSound_setTesterLink {n : Fin 12} {l : Link} (hl : LinkLaw (tl n) s.links[tl n] → LinkLaw (tl n) l) :
    ServiceSound s (s.setLink (tl n) l) where
  records := sameRecords_setLink s _ _
  pending := rfl
  links h := h.setTesterLink (hl (h.links _))
  room := by
    have hne : (tl n).val ≠ (cl : Fin 13).val := fun k => (Fin.castSucc_lt_last n).ne (Fin.ext k)
    simp [hne]

theorem lctlWork_sound {link : Byte} {work : Fin 12 → State → State × Message}
    (h : ∀ n, ServiceSound s (work n s).1) : ServiceSound s (lctlWork c tag link work s).1 := by
  unfold lctlWork
  split
  exacts [.rfl, h _]

theorem lctlAct_sound {act : Link → Link} {discarded : Link → Nat} (n : Fin 12)
    (h : ∀ {l : Link}, LinkLaw (tl n) l → LinkLaw (tl n) (act l)) :
    ServiceSound s (lctlAct c tag act discarded n s).1 :=
  serviceSound_setTesterLink h

theorem setModeWork_sound (value : Byte) (n : Fin 12) : ServiceSound s (setModeWork c tag value n s).1 := by
  unfold setModeWork
  split
  · exact serviceSound_setTesterLink fun h => { h with }
  · exact .rfl

theorem setRateWork_sound (value : Byte) (n : Fin 12) : ServiceSound s (setRateWork c tag value n s).1 := by
  unfold setRateWork
  split
  · split
    · exact serviceSound_setTesterLink fun h => { h with }
    · exact .rfl
  · exact .rfl

theorem serviceSound_clearLink (n : Fin 13) : ServiceSound s (s.setLink n s.links[n].cleared) where
  records := sameRecords_setLink s _ _
  pending := rfl
  links h := h.setLink (h.links n).cleared (by rintro rfl; exact ⟨rfl, rfl, rfl⟩)
  room := by
    by_cases hn : n = cl
    · subst hn; simp
    · simp [Fin.val_inj, hn]

/-- Changes of the stop-all flag and the dropped-alert mark. -/
theorem serviceSound_flags (stopAll dropped : Bool) :
    ServiceSound s { s with stopAll := stopAll, dropped := dropped } where
  records := by constructor <;> rfl
  pending := rfl
  links h := h.of_links rfl
  room := rfl

end Services

/-! ### Events -/

section Events

variable {s t : State}

/-- A byte received changes links and no record (R165, R166). -/
theorem receive_records (s : State) (n : Fin 13) (b : Byte) :
    SameRecords s (s.receive n b) ∧ (s.receive n b).pending = s.pending := by
  have herror : ∀ l e, SameRecords s (s.receiverError n l e) := fun l e => by constructor <;> simp
  unfold State.receive
  dsimp only
  split
  · exact ⟨.rfl, rfl⟩
  · split
    · exact ⟨sameRecords_setLink .., rfl⟩
    · split
      · exact ⟨.rfl, rfl⟩
      · exact ⟨(sameRecords_setLink ..).trans (sameRecords_linkError ..), by simp⟩
  · split
    exacts [⟨sameRecords_setLink .., rfl⟩, ⟨herror _ _, by simp⟩]
  · split <;> exact ⟨sameRecords_setLink .., rfl⟩
  · exact ⟨sameRecords_setLink .., rfl⟩
  · unfold State.frameComplete
    dsimp only
    split
    · exact ⟨herror _ _, by simp⟩
    · split
      exacts [⟨sameRecords_setLink .., rfl⟩, ⟨herror _ _, by simp⟩]

theorem execByteReceived_sound {n : Fin 13} {b : Byte} (h : execByteReceived n b s = .next t) : Sound s t := by
  obtain ⟨hrecords, hpending⟩ := receive_records s n b
  unfold execByteReceived at h
  split at h <;> cases h
  exacts [.rfl, ⟨.quiet hrecords, hpending, fun hlaw => hlaw.receive n b⟩]

theorem execInterByteTimeout_sound {n : Fin 13} (h : execInterByteTimeout n s = .next t) : Sound s t := by
  have hrecords : ∀ l e, SameRecords s (s.receiverError n l e) := fun l e => by constructor <;> simp
  unfold execInterByteTimeout at h
  dsimp only at h
  split at h <;> cases h
  next hframe =>
    refine ⟨.quiet (hrecords _ _), by simp, fun hlaw => ?_⟩
    have hn := hlaw.links n
    refine hlaw.receiverError (hn.withReceiver (hn.running_of_receiver fun hidle => ?_) (receiverLaw_afterFrame _)) ?_ _
    · have := hframe.2
      rw [hidle] at this
      cases this
    · rintro rfl
      exact ⟨rfl, rfl, rfl⟩
  next => exact .rfl

theorem execMessageSent_sound {n : Fin 13} (h : execMessageSent n s = .next t) : Sound s t := by
  unfold execMessageSent at h
  split at h
  · split at h <;> cases h
    · exact .rfl
    · refine ⟨.quiet (by constructor <;> simp), rfl, fun hlaw => ?_⟩
      have hset := hlaw.setLink (n := n) (hlaw.links n).sent (by rintro rfl; exact ⟨rfl, rfl, rfl⟩)
      exact hset.of_links rfl
  · cases h
    exact .rfl

theorem execFrameDiscard_sound {n : Fin 12} (h : execFrameDiscard n s = .next t) : Sound s t := by
  unfold execFrameDiscard at h
  split at h <;> cases h
  · exact ⟨.quiet ((sameRecords_takeFrame s n).trans (sameRecords_linkError _ _ _)), by simp,
      fun hlaw => (hlaw.takeFrame n).linkError _ _⟩
  · exact .rfl

theorem execCommandTake_sound (h : execCommandTake s = .next t) : Sound s t := by
  unfold execCommandTake at h
  split at h
  next body rest hhold =>
    split at h <;> cases h
    · have hlinks : LinksLaw s → LinksLaw (s.setLink cl { s.links[cl] with holding := rest }) := fun hlaw => by
        have htail := (hlaw.links cl).withHoldingTail
        rw [hhold] at htail
        exact hlaw.setLink htail fun _ => ⟨rfl, rfl, rfl⟩
      unfold State.examine
      split
      · exact ⟨.quiet (by constructor <;> simp), rfl, fun hlaw => (hlinks hlaw).of_links rfl⟩
      · exact ⟨.quiet ((sameRecords_setLink s _ _).trans (sameRecords_linkError _ _ _)), by simp,
          fun hlaw => (hlinks hlaw).linkError _ _⟩
      · exact ⟨.quiet ((sameRecords_setLink s _ _).trans (sameRecords_linkError _ _ _)), by simp,
          fun hlaw => (hlinks hlaw).linkError _ _⟩
    · exact .rfl
  next =>
    cases h
    exact .rfl

theorem execDon_sound (h : execDon s = .next t) : Sound s t := by
  unfold execDon at h
  split at h
  next d rest hlist =>
    split at h <;> cases h
    next hroom =>
      refine ⟨.tail (.single (.quiet (sameRecords_place s cl (.don d)))) (.done _ d rest ?_), rfl, fun hlaw => ?_⟩
      · simpa using hlist
      · exact (hlaw.place (.don d) hroom.2).of_links rfl
    next => exact .rfl
  next =>
    cases h
    exact .rfl

@[simp] theorem State.endClearing_links (s : State) (i : Fin 64) : (s.endClearing i).1.links = s.links := by
  unfold State.endClearing
  dsimp only
  split <;> simp

@[simp] theorem State.endClearing_pending (s : State) (i : Fin 64) : (s.endClearing i).1.pending = s.pending := by
  unfold State.endClearing
  dsimp only
  split <;> simp

/-- R135: what the end of a clearing makes of the lot entry whose retirement set holds the slot. -/
theorem State.leaveRetirement_cases (s : State) (i : Fin 64) : s.leaveRetirement i = (s, []) ∨
    ∃ (k : Fin 16) (r : Retirement), s.retiringLot i = some k ∧ s.lots[k].retirement = some r ∧
      ((r.slots.filter fun j => j != i) = [] ∧
        s.leaveRetirement i = (s.setLot k Lot.free, [⟨r.tag, 0x14, .ok, be1 k.val⟩]) ∨
      (r.slots.filter fun j => j != i) ≠ [] ∧ s.leaveRetirement i = (s.setLot k { s.lots[k] with
        retirement := some { r with slots := r.slots.filter fun j => j != i } }, [])) := by
  unfold State.leaveRetirement
  split
  · exact .inl rfl
  next k hk =>
    split
    · exact .inl rfl
    next r hr =>
      refine .inr ⟨k, r, hk, hr, ?_⟩
      dsimp only
      split
      next he => exact .inl ⟨List.isEmpty_iff.1 he, rfl⟩
      next he => exact .inr ⟨fun k => he (List.isEmpty_iff.2 k), rfl⟩

@[simp] theorem State.leaveRetirement_links (s : State) (i : Fin 64) : (s.leaveRetirement i).1.links = s.links := by
  obtain he | ⟨k, r, _, _, ⟨_, he⟩ | ⟨_, he⟩⟩ := s.leaveRetirement_cases i <;> rw [he] <;> rfl

@[simp] theorem State.leaveRetirement_pending (s : State) (i : Fin 64) :
    (s.leaveRetirement i).1.pending = s.pending := by
  obtain he | ⟨k, r, _, _, ⟨_, he⟩ | ⟨_, he⟩⟩ := s.leaveRetirement_cases i <;> rw [he] <;> rfl

/-- Handing DONs first does not change which retirement ends. -/
theorem State.leaveRetirement_hand (s : State) (i : Fin 64) (ds : List Done) :
    (s.hand ds).leaveRetirement i = ((s.leaveRetirement i).1.hand ds, (s.leaveRetirement i).2) := by
  have hlot : (s.hand ds).retiringLot i = s.retiringLot i := rfl
  unfold State.leaveRetirement
  rw [hlot]
  cases s.retiringLot i with
  | none => rfl
  | some k =>
    dsimp only
    have hr : (s.hand ds).lots[k].retirement = s.lots[k].retirement := rfl
    rw [hr]
    cases s.lots[k].retirement with
    | none => rfl
    | some r =>
      dsimp only
      split <;> rfl

theorem sameRecords_hand_hand (s : State) (as bs : List Done) :
    SameRecords ((s.hand as).hand bs) (s.hand (as ++ bs)) := by
  constructor <;> simp [State.hand]

theorem execClearingEnd_sound (h : execClearingEnd s = .next t) : Sound s t := by
  unfold execClearingEnd at h
  split at h
  next i rest hlist =>
    split at h <;> cases h
    · exact .rfl
    · have hleave := State.leaveRetirement_hand ({ s with clearList := rest }.endClearing i).1 i
        ({ s with clearList := rest }.endClearing i).2
      refine ⟨.tail (.tail (.single (.endClearing s i rest hlist)) (.leaveRetirement _ i)) (.quiet ?_), ?_,
        fun hlaw => ?_⟩
      · rw [hleave]
        exact sameRecords_hand_hand _ _ _
      · simp [State.hand]
      · exact hlaw.of_links (by simp [State.hand])
  next =>
    cases h
    exact .rfl

theorem execSweepEnd_sound (h : execSweepEnd s = .next t) : Sound s t := by
  unfold execSweepEnd at h
  split at h
  next j rest hjobs =>
    split at h <;> cases h
    next hsweep =>
      refine ⟨.single (.endSweep s j rest hjobs hsweep.2), by simp [State.endSweep, State.hand], fun hlaw => ?_⟩
      refine LinksLaw.of_links (LinksLaw.offerAll (hlaw.of_links ?_) 0 (s.evaluateSlot j.slot).2) rfl
      simp
    next => exact .rfl
  next =>
    cases h
    exact .rfl

theorem execDigestEnd_sound (h : execDigestEnd s = .next t) : Sound s t := by
  unfold execDigestEnd at h
  split at h
  next j rest hjobs =>
    split at h <;> cases h
    next hdigest =>
      exact ⟨.single (.endDigest s j rest hjobs hdigest.2), rfl, fun hlaw => hlaw.of_links rfl⟩
    next => exact .rfl
  next =>
    cases h
    exact .rfl

theorem execMch_sound (h : execMch s = .next t) : Sound s t := by
  unfold execMch at h
  split at h
  next x hx =>
    split at h <;> cases h
    next hgo =>
      obtain ⟨_, hphase, hroom⟩ := hgo
      exact ⟨.single (.placeChunk s x hx hphase), rfl, fun hlaw => (hlaw.place _ (by omega)).of_links rfl⟩
    next => exact .rfl
  next =>
    cases h
    exact .rfl

theorem execMnd_sound (h : execMnd s = .next t) : Sound s t := by
  unfold execMnd at h
  split at h
  next x hx =>
    split at h <;> cases h
    next hgo =>
      obtain ⟨_, hphase, hroom⟩ := hgo
      exact ⟨.single (.endExport s x hx hphase), rfl, fun hlaw => (hlaw.place _ (by omega)).of_links rfl⟩
    next => exact .rfl
  next =>
    cases h
    exact .rfl

theorem sound_afterReset : Sound s s.afterReset :=
  ⟨.tail (.single (.reset s)) (.quiet (by constructor <;> rfl)), rfl, fun _ => linksLaw_reset.of_links rfl⟩

theorem Sound.heldInReset (h : Sound s t) : Sound s t.heldInReset :=
  ⟨h.moves.tail (.quiet (by constructor <;> rfl)), h.pending, fun hlaw => (h.links hlaw).heldInReset⟩

end Events

/-! ### Every command -/

/-- Every command is a sequence of moves that keeps the queue of commands still to come and the law of the links. -/
theorem exec_sound {c : Instr} {s t : State} (h : exec c s = .next t) : Sound s t := by
  cases c with
  | powerOn =>
    cases h
    split
    exacts [sound_afterReset.heldInReset, sound_afterReset]
  | resetPinAssert =>
    cases h
    exact Sound.rfl.heldInReset
  | resetPinRelease =>
    cases h
    split
    exacts [sound_afterReset, .rfl]
  | byteReceived n b => exact execByteReceived_sound h
  | interByteTimeout n => exact execInterByteTimeout_sound h
  | messageSent n => exact execMessageSent_sound h
  | frameDiscard n => exact execFrameDiscard_sound h
  | tdr n aliasNo x0 y0 count results => exact engineReport_sound (tdrItem_sound ..) h
  | clq n aliasNo x y => exact engineReport_sound (clqItem_sound ..) h
  | rtp n aliasNo start maxCount => exact engineReport_sound (rtpItem_sound ..) h
  | commandTake => exact execCommandTake_sound h
  | ldrcPart1 tag recipe part w entries => exact engineCommand_sound (fun _ => ldrcPart1Item_sound ..) h
  | ldrcPart2 tag recipe part entries => exact engineCommand_sound (fun _ => ldrcPart2Item_sound ..) h
  | rdrc tag recipe part => exact engineCommand_sound (fun _ => rdrcItem_sound ..) h
  | oplt tag ident recipe => exact engineCommand_sound (fun _ => opltItem_sound ..) h
  | cllt tag ident => exact engineCommand_sound (fun _ => lotItem_sound fun k => clltWork_sound _ tag k) h
  | rtlt tag ident =>
    exact engineCommand_sound (fun ht => lotItem_sound fun k =>
      rtltWork_sound _ tag k (engineTakes_room_completions ht).2) h
  | lsum tag ident first last position => exact engineCommand_sound (fun _ => lsumItem_sound ..) h
  | opwf tag ident wafer rows cols round forceHold =>
    exact engineCommand_sound (fun ht => opwfItem_sound _ tag ident wafer rows cols round forceHold
      (engineTakes_room_completions ht).2) h
  | clwf tag slot =>
    exact engineCommand_sound (fun ht => slotItem_sound fun i =>
      clwfWork_sound _ tag i (engineTakes_room_completions ht).2) h
  | rpwf tag slot => exact engineCommand_sound (fun _ => slotItem_sound fun i => rpwfWork_sound _ tag i) h
  | rtwf tag slot => exact engineCommand_sound (fun _ => slotItem_sound fun i => rtwfWork_sound _ tag i) h
  | pins tag slot => exact engineCommand_sound (fun _ => slotItem_sound fun i => pinsWork_sound _ tag i) h
  | upin tag slot => exact engineCommand_sound (fun _ => slotItem_sound fun i => upinWork_sound _ tag i) h
  | fndw tag ident wafer => exact engineCommand_sound (fun _ => fndwItem_sound ..) h
  | wsum tag slot first last =>
    exact engineCommand_sound (fun _ => slotItem_sound fun i => wsumWork_sound _ tag first last i) h
  | rdcl tag slot y x count =>
    exact engineCommand_sound (fun _ => slotItem_sound fun i => rdclWork_sound _ tag y x count i) h
  | frcl tag slot x y bin =>
    exact engineCommand_sound (fun _ => overrideItem_sound fun i hi => frclWork_sound _ tag x y bin i hi) h
  | ufcl tag slot x y =>
    exact engineCommand_sound (fun _ => overrideItem_sound fun i hi => ufclWork_sound _ tag x y i hi) h
  | excl tag slot x1 y1 x2 y2 =>
    exact engineCommand_sound (fun _ => overrideItem_sound fun i hi => exclWork_sound _ tag x1 y1 x2 y2 i hi) h
  | incl tag slot x1 y1 x2 y2 =>
    exact engineCommand_sound (fun _ => overrideItem_sound fun i hi => inclWork_sound _ tag x1 y1 x2 y2 i hi) h
  | xprt tag slot =>
    exact engineCommand_sound (fun ht => slotItem_sound fun i =>
      xprtWork_sound _ tag i (engineTakes_room_completions ht).2) h
  | xstp tag => exact engineCommand_sound (fun _ => xstpItem_sound ..) h
  | dgst tag slot start count =>
    exact engineCommand_sound (fun ht => slotItem_sound fun i =>
      dgstWork_sound _ tag start count i (engineTakes_room_completions ht).2) h
  | bind tag link aliasNo slot =>
    exact engineCommand_sound (fun _ => aliasItem_sound fun n a => bindWork_sound _ tag slot n a) h
  | ubnd tag link aliasNo =>
    exact engineCommand_sound (fun _ => aliasItem_sound fun n a => ubndWork_sound _ tag n a) h
  | rsmb tag link aliasNo =>
    exact engineCommand_sound (fun _ => aliasItem_sound fun n a => rsmbWork_sound _ tag n a) h
  | stmp tag link count entries => exact engineCommand_sound (fun _ => stmpItem_sound ..) h
  | rlhdWafer tag kind slot ident =>
    simp only [exec, execRlhdWafer] at h
    refine engineCommand_sound (fun _ => ?_) h
    split
    exacts [slotItem_sound fun i => rlhdWaferWork_sound _ tag i, itemSound_refuse ..]
  | rlhdLot tag slot ident =>
    exact engineCommand_sound (fun _ => lotItem_sound fun k => rlhdLotWork_sound _ tag k) h
  | lctlStart tag link action value =>
    simp only [exec, execLctlStart] at h
    refine serveCommand_sound ?_ h
    split
    exacts [lctlWork_sound _ tag fun n => lctlAct_sound _ tag n LinkLaw.start, .rfl]
  | lctlStopDrain tag link value =>
    exact serveCommand_sound (lctlWork_sound _ tag fun n => lctlAct_sound _ tag n LinkLaw.stopDrain) h
  | lctlStopForce tag link value =>
    exact serveCommand_sound (lctlWork_sound _ tag fun n => lctlAct_sound _ tag n LinkLaw.stopForce) h
  | lctlRestart tag link value =>
    exact serveCommand_sound (lctlWork_sound _ tag fun n => lctlAct_sound _ tag n LinkLaw.restart) h
  | lctlSetMode tag link value =>
    exact serveCommand_sound (lctlWork_sound _ tag fun n => setModeWork_sound _ tag value n) h
  | lctlSetRate tag link value =>
    exact serveCommand_sound (lctlWork_sound _ tag fun n => setRateWork_sound _ tag value n) h
  | lsta tag link =>
    simp only [exec, execLsta] at h
    refine serveCommand_sound ?_ h
    split
    exacts [.rfl, serviceSound_clearLink _]
  | asta tag selector first =>
    simp only [exec, execAsta] at h
    refine serveCommand_sound ?_ h
    split
    exacts [serviceSound_flags _ _, .rfl]
  | stpa tag =>
    simp only [exec, execStpa] at h
    exact serveCommand_sound (serviceSound_flags _ _) h
  | rsma tag =>
    simp only [exec, execRsma] at h
    exact serveCommand_sound (serviceSound_flags _ _) h
  | clra tag => exact engineCommand_sound (fun ht => clraItem_sound _ tag (engineTakes_room_completions ht).2) h
  | clearingEnd => exact execClearingEnd_sound h
  | sweepEnd => exact execSweepEnd_sound h
  | digestEnd => exact execDigestEnd_sound h
  | mch => exact execMch_sound h
  | mnd => exact execMnd_sound h
  | don => exact execDon_sound h

/-- A step is a sequence of moves, and keeps the law of the links. -/
theorem step_sound {s t : State} (h : step s = .next t) : Moves s t ∧ (LinksLaw s → LinksLaw t) := by
  unfold step at h
  split at h
  next =>
    cases h
    exact ⟨.refl, id⟩
  next c rest _ =>
    obtain ⟨hmoves, _, hlinks⟩ := exec_sound h
    exact ⟨.head (.quiet (by constructor <;> rfl)) hmoves, fun hlaw => hlinks (hlaw.of_links rfl)⟩

/-- A predicate that every move keeps is kept by every step. -/
theorem step_keeps {P : State → Prop} (hmove : ∀ {s t : State}, Move s t → P s → P t) {s t : State} (hs : P s)
    (h : step s = .next t) : P t := by
  have hmoves := (step_sound h).1
  clear h
  induction hmoves with
  | refl => exact hs
  | tail _ hlast ih => exact hmove hlast ih

/-- Settles O56: the law of the links goes through every command as `exec_sound` says. -/
theorem everyStepKeepsTheLinks : Obligations.EveryStepKeepsTheLinks :=
  fun _ _ hlaw h => (step_sound h).2 hlaw

end Sys2Proof.Machine
end

section
/-! PROOFS. What a move makes of one slot record, and what it leaves of recipes and staging; from these the laws of the
records and of the maps under their recipes (R1 to R11, R18). -/

namespace Sys2Proof.Machine

open Sys2Proof.Safety

/-! ### Evaluations and the breach-seen mark (R107) -/

/-- An active breach has its breach-seen mark. -/
def LimitStates.marked (l : LimitStates) : Prop := l.active = true → l.seen = true

theorem LimitStates.active_iff {l : LimitStates} :
    l.active = true ↔ l.yield = .breach ∨ ∃ b : Fin 64, l.bins[b] = .breach := by
  simp only [LimitStates.active, Bool.or_eq_true, beq_iff_eq, List.any_eq_true, Vector.mem_toList_iff]
  refine or_congr Iff.rfl ⟨?_, ?_⟩
  · rintro ⟨b, hb, rfl⟩
    obtain ⟨i, hi, h⟩ := Vector.getElem_of_mem hb
    exact ⟨⟨i, hi⟩, h⟩
  · rintro ⟨b, h⟩
    exact ⟨_, Vector.getElem_mem b.isLt, h⟩

theorem LimitStates.clear_marked : LimitStates.clear.marked := by
  intro h
  obtain h | ⟨b, h⟩ := LimitStates.active_iff.1 h
  · cases h
  · simp [LimitStates.clear] at h

/-- A state that is in breach after an evaluation and was not before has entered it, and that is one of the changes. -/
theorem enters_mem_limitChanges {r : Recipe} {floor : Nat} {t : Tallies} {l : LimitStates} {b : Fin 64} (hb : b ≠ 0)
    (hold : l.bins[b] = .clear) (hnew : evaluateBin r t l b = .breach) :
    ∃ c ∈ limitChanges r floor t l, c.edge = .enter := by
  refine ⟨⟨.enter, b, r.entries[b].ceiling, t.tested, t.share b⟩, List.mem_append_left _ (List.mem_filterMap.2
    ⟨b, List.mem_filter.2 ⟨List.mem_finRange b, by simpa using hb⟩, ?_⟩), rfl⟩
  rw [binChange, hold, hnew]
  rfl

theorem enters_yield_mem_limitChanges {r : Recipe} {floor : Nat} {t : Tallies} {l : LimitStates}
    (hold : l.yield = .clear) (hnew : evaluateYield r floor t l = .breach) :
    ∃ c ∈ limitChanges r floor t l, c.edge = .enter := by
  refine ⟨⟨.enter, 0, floor, t.tested, t.yield⟩, List.mem_append_right _ ?_, rfl⟩
  rw [yieldChange, hold, hnew]
  exact List.mem_singleton.2 rfl

/-- R107: an evaluation leaves an active breach marked. -/
theorem evaluate_marked {r : Recipe} {floor : Nat} {t : Tallies} {l : LimitStates} (h : l.marked) :
    (evaluate r floor t l).marked := by
  intro hactive
  have hseen : ∀ {e : Prop}, (e → l.seen = true) → (¬ e → ∃ c ∈ limitChanges r floor t l, c.edge = .enter) →
      (evaluate r floor t l).seen = true := by
    intro e hold hnew
    by_cases he : e
    · simp [evaluate, hold he]
    · obtain ⟨c, hc, hedge⟩ := hnew he
      simp only [evaluate, Bool.or_eq_true, List.any_eq_true]
      exact .inr ⟨c, hc, by simp [hedge]⟩
  have hclear : ∀ {x : Breach}, ¬ x = .breach → x = .clear := fun {x} hx => by cases x <;> trivial
  obtain hy | ⟨b, hb⟩ := LimitStates.active_iff.1 hactive
  · refine hseen (e := l.yield = .breach) (fun he => h (LimitStates.active_iff.2 (.inl he))) fun he => ?_
    exact enters_yield_mem_limitChanges (hclear he) hy
  · rw [evaluate_bin] at hb
    refine hseen (e := l.bins[b] = .breach) (fun he => h (LimitStates.active_iff.2 (.inr ⟨b, he⟩))) fun he => ?_
    refine enters_mem_limitChanges (fun hzero => he ?_) (hclear he) hb
    subst hzero
    rwa [evaluateBin_zero] at hb

/-! ### One slot -/

/-- The slot record of an initialized slot (R27). -/
def openedSlot (s : State) (o : PendingOpen) : Slot where
  state := .opened
  identity := some ⟨o.lot, o.wafer⟩
  recipe := s.lots[o.lot].recipe
  geometry := some ⟨o.rows, o.cols, o.round⟩
  mapSize := o.rows * o.cols - (openExclusions ⟨o.rows, o.cols, o.round⟩).length
  tallies := Tallies.zero
  shadowed := 0
  disposition := .none
  closeDigest := none
  finalYield := none
  closeSeq := none
  exported := false
  forceHold := o.forceHold
  pinned := false
  pendingOpen := none
  busy := none
  limits := LimitStates.clear
  cells := Memory.initial ⟨o.rows, o.cols, o.round⟩

theorem State.initSlot_eq (s : State) (i : Fin 64) (o : PendingOpen) :
    s.initSlot i o = s.setSlot i (openedSlot s o) := rfl

/-- The slot record after an evaluation of the slot (R102). -/
def State.evaluatedSlot (s : State) (i : Fin 64) : Slot :=
  { s.slots[i] with
    limits := evaluate (s.recipeOfSlot i) (s.recipeOfSlot i).scalars.waferFloor s.slots[i].tallies s.slots[i].limits }

theorem State.evaluateSlot_eq (s : State) (i : Fin 64) : (s.evaluateSlot i).1 = s.setSlot i (s.evaluatedSlot i) := rfl

/-- What a move makes of the record of slot `j`. -/
inductive SlotMove (s : State) (j : Fin 64) : Slot → Prop where
  | same : SlotMove s j s.slots[j]
  | reset : SlotMove s j (Slot.empty .clearing [])
  | emptied : SlotMove s j (Slot.empty .clearing s.slots[j].cells)
  | forgotten (h : s.slots[j].state = .clearing) :
      SlotMove s j { s.slots[j] with pendingOpen := none, identity := none }
  | opened (o : PendingOpen)
      (h : (s.slots[j].state = .free ∧ OpenOk s o) ∨ s.slots[j].pendingOpen = some o ∧ j ∈ s.clearList) :
      SlotMove s j (openedSlot s o)
  | attached (o : PendingOpen) (ho : OpenOk s o) (h : j ∈ s.clearList) (hp : s.slots[j].pendingOpen = none) :
      SlotMove s j { s.slots[j] with pendingOpen := some o, identity := some ⟨o.lot, o.wafer⟩ }
  | freed (h : j ∈ s.clearList) (hp : s.slots[j].pendingOpen = none) :
      SlotMove s j { s.slots[j] with state := .free, cells := [] }
  | pinned (b : Bool) : SlotMove s j { s.slots[j] with pinned := b }
  | released (h : s.slots[j].state = .closed) : SlotMove s j { s.slots[j] with disposition := .released }
  | closing (h : s.slots[j].state = .opened) (hb : s.slots[j].busy = none) :
      SlotMove s j { s.slots[j] with state := .closing, busy := some .sweep }
  | closed (x : Job) (rest : List Job) (l : LimitStates) (d : Word16) (h : s.jobs = x :: rest) (hk : x.kind = .sweep)
      (hx : x.slot = j) (hd : d = digestCellsFrom x.register s.slots[j].cells x.next x.stop)
      (hl : s.slots[j].limits.marked → l.marked) :
      SlotMove s j ({ s.slots[j] with limits := l }.closedBy d (nextCloseSeq s.closeSeq))
  | reopened (h : s.slots[j].state = .closed) (l : LimitStates) (hl : l.marked) :
      SlotMove s j { Slot.reopened s.slots[j] with limits := l }
  | busied (b : Option Busy) : SlotMove s j { s.slots[j] with busy := b }
  | exporting (h : s.slots[j].state = .closed) (hb : s.slots[j].busy = none) :
      SlotMove s j { s.slots[j] with state := .exporting, busy := some .transfer }
  | exported (x : Transfer) (h : s.transfer = some x) (hx : x.slot = j) :
      SlotMove s j { s.slots[j] with state := .closed, busy := none, exported := !x.stop }
  | changed (w : Wafer) (l : LimitStates) (h : s.slots[j].state = .opened)
      (hw : CellSteps (s.recipeOfSlot j) (s.wafer j) w) (hl : w.slot.limits.marked → l.marked) :
      SlotMove s j { w.slot with limits := l }

/-- One slot record is replaced. -/
theorem slotMove_set {s : State} {i : Fin 64} {sl : Slot} (h : SlotMove s i sl) (j : Fin 64) :
    SlotMove s j (s.slots.set i sl)[j] := by
  by_cases hij : i = j
  · subst hij
    simpa using h
  · have hne : i.val ≠ j.val := fun k => hij (Fin.ext k)
    have : (s.slots.set i sl)[j] = s.slots[j] := by simp [hne]
    rw [this]
    exact .same

theorem foldl_retire_get (is : List (Fin 64)) (s : State) (j : Fin 64) : (is.foldl State.retire s).slots[j] =
    if j ∈ is then Slot.empty .clearing s.slots[j].cells else s.slots[j] := by
  induction is generalizing s with
  | nil => simp
  | cons i rest ih =>
    have hget : (s.retire i).slots[j] = if i = j then Slot.empty .clearing s.slots[i].cells else s.slots[j] := by
      simp only [Fin.getElem_fin, State.retire_get, Fin.val_inj]
    rw [List.foldl_cons, ih, hget]
    by_cases hij : i = j
    · subst hij
      simp [Slot.empty]
    · have hji : j ≠ i := Ne.symm hij
      simp [hij, hji]

/-- The evaluation after a change of cells leaves breaches marked (R107). -/
theorem settle_slots_marked (s : State) (i : Fin 64) (w : Wafer) : ∃ l : LimitStates,
    (w.slot.limits.marked → l.marked) ∧ (s.settle i w).1.slots = s.slots.set i { w.slot with limits := l } := by
  cases hm : w.moved with
  | false =>
    refine ⟨w.slot.limits, id, ?_⟩
    rw [State.settle_of_not_moved hm]
    exact commit_slots s i w
  | true =>
    have hslot : (s.commit i w).slots[i] = w.slot := by simp [commit_slots]
    refine ⟨evaluate ((s.commit i w).recipeOfSlot i) ((s.commit i w).recipeOfSlot i).scalars.waferFloor
      w.slot.tallies w.slot.limits, evaluate_marked, ?_⟩
    rw [State.settle_of_moved hm]
    have hset : ((s.commit i w).evaluateSlot i).1.slots = s.slots.set i { w.slot with
        limits := evaluate ((s.commit i w).recipeOfSlot i) ((s.commit i w).recipeOfSlot i).scalars.waferFloor
          w.slot.tallies w.slot.limits } := by
      rw [State.evaluateSlot_fst, hslot, State.setSlot, commit_slots]
      simp
    unfold State.evaluateBoth
    split
    · rw [← hset]
      exact State.evaluateLot_slots _ _
    · exact hset

/-! ### The slot that a move replaces -/

theorem retire_slots (s : State) (i : Fin 64) :
    (s.retire i).slots = s.slots.set i (Slot.empty .clearing s.slots[i].cells) := by
  simp [State.retire_eq, State.enterClearing, State.setSlot]

theorem endSweep_slots (s : State) (x : Job) (rest : List Job) : ∃ (l : LimitStates) (d : Word16),
    (s.slots[x.slot].limits.marked → l.marked) ∧ d = digestCellsFrom x.register s.slots[x.slot].cells x.next x.stop ∧
    (s.endSweep x rest).slots =
      s.slots.set x.slot ({ s.slots[x.slot] with limits := l }.closedBy d (nextCloseSeq s.closeSeq)) :=
  ⟨(s.evaluatedSlot x.slot).limits, _, evaluate_marked, rfl, by
    simp [State.endSweep, State.hand, State.evaluateSlot_eq, State.evaluatedSlot, State.setSlot, Job.readTo]⟩

theorem marked_remark {l : LimitStates} : l.remark.marked := by
  intro h
  have : l.active = true := h
  simp [LimitStates.remark, this]

theorem reopen_slots (c : Instr) (tag : Byte) (i : Fin 64) (s : State) : ∃ l : LimitStates, l.marked ∧
    (reopen c tag i s).state.slots = s.slots.set i { Slot.reopened s.slots[i] with limits := l } :=
  ⟨_, marked_remark (l := (((s.setSlot i s.slots[i].reopened).setMember s.slots[i].identity fun m =>
      { m with finalYield := none, disposition := .none }).evaluateSlot i).1.slots[i].limits),
    by simp [reopen, State.evaluateSlot_fst, State.setSlot]⟩

/-- What a move makes of each slot. -/
theorem Move.slot {s t : State} (h : Move s t) (j : Fin 64) : SlotMove s j t.slots[j] := by
  cases h with
  | quiet h => rw [h.slots]; exact .same
  | reset =>
    have : State.reset.slots[j] = Slot.empty .clearing [] := by simp [State.reset]
    rw [this]
    exact .reset
  | retireLot k tag hk hh hc =>
    have := foldl_retire_get s.lots[k].memberSlots s j
    rw [State.setLot_slots, this]
    split
    exacts [.emptied, .same]
  | openNow i o ho hi => exact slotMove_set (.opened o (.inl ⟨hi, ho⟩)) j
  | attach i o ho hi hp hc => exact slotMove_set (.attached o ho hi hp) j
  | endClearing i rest h =>
    have hi : i ∈ s.clearList := h ▸ List.mem_cons_self
    unfold State.endClearing
    dsimp only
    split
    next o ho =>
      simp only [State.hand, State.setMember_slots]
      exact slotMove_set (.opened o (.inr ⟨ho, hi⟩)) j
    next hp => exact slotMove_set (.freed hi hp) j
  | leaveRetirement i =>
    obtain he | ⟨k, r, _, _, ⟨_, he⟩ | ⟨_, he⟩⟩ := s.leaveRetirement_cases i <;> rw [he] <;> exact .same
  | retire i hi hb =>
    rw [retire_slots]
    exact slotMove_set .emptied j
  | pin i => exact slotMove_set (.pinned true) j
  | unpin i => exact slotMove_set (.pinned false) j
  | releaseWafer i hi =>
    rw [State.setMember_slots]
    exact slotMove_set (.released hi) j
  | closeWafer i tag hi hb => exact slotMove_set (.closing hi hb) j
  | endSweep x rest h hk =>
    obtain ⟨l, d, hl, hd, hslots⟩ := endSweep_slots s x rest
    rw [hslots]
    exact slotMove_set (.closed x rest l d h hk rfl hd hl) j
  | reopen c tag i hi hb hl =>
    obtain ⟨l, hmarked, hslots⟩ := reopen_slots c tag i s
    rw [hslots]
    exact slotMove_set (.reopened hi l hmarked) j
  | digest i => exact slotMove_set (.busied _) j
  | endDigest x rest h hk => exact slotMove_set (.busied _) j
  | startExport i tag ht hi hb => exact slotMove_set (.exporting hi hb) j
  | endExport x h hp => exact slotMove_set (.exported x h rfl) j
  | change i w hi hw =>
    obtain ⟨l, hl, hslots⟩ := settle_slots_marked s i w
    rw [hslots]
    exact slotMove_set (.changed w l hi hw hl) j
  | clearAll hc =>
    have hslot : ((Machine.clearAll s).hand (cancelled s)).slots[j] = clearedSlot s.slots[j] := by
      simp [Machine.clearAll, State.hand]
    rw [hslot]
    unfold clearedSlot
    split
    · exact .same
    next hclearing => exact .forgotten hclearing
    all_goals exact .emptied
  | _ => exact .same

/-! ### Recipes and staging -/

/-- A move leaves the recipes, resets the part, or commits a recipe that no lot entry names and leaves slots and
lots. -/
theorem Move.recipes_cases {s t : State} (h : Move s t) : t.recipes = s.recipes ∨ t = State.reset ∨
    ∃ (r : Fin 8) (g : Staging) (entries : List EntryWire), s.staging = some g ∧ s.recipeInUse r = false ∧
      t.recipes = s.recipes.set r (committed s.recipes[r] g entries) ∧ t.slots = s.slots := by
  cases h with
  | quiet h => exact .inl h.recipes
  | reset => exact .inr (.inl rfl)
  | commitRecipe r g entries hg hu => exact .inr (.inr ⟨r, g, entries, hg, hu, rfl, rfl⟩)
  | retireLot k tag =>
    have : ∀ (is : List (Fin 64)) (s : State), (is.foldl State.retire s).recipes = s.recipes := by
      intro is
      induction is with
      | nil => exact fun _ => rfl
      | cons i rest ih => exact fun s => (ih (s.retire i)).trans (State.retire_recipes s i)
    exact .inl (this _ s)
  | endClearing i rest h =>
    unfold State.endClearing
    dsimp only
    split
    · exact .inl (by simp [State.hand])
    · exact .inl rfl
  | leaveRetirement i =>
    obtain he | ⟨k, r, _, _, ⟨_, he⟩ | ⟨_, he⟩⟩ := s.leaveRetirement_cases i <;> rw [he] <;> exact .inl rfl
  | endSweep x rest => exact .inl (by simp [State.endSweep, State.hand])
  | change i w => exact .inl (State.settle_recipes s i w)
  | releaseWafer i => exact .inl (State.setMember_recipes _ _ _)
  | retire i => exact .inl (State.retire_recipes s i)
  | reopen c tag i => exact .inl (by simp [Machine.reopen])
  | _ => exact .inl rfl

/-- A move leaves the staging, empties it, or fills it with a clamped part 1 (R8). -/
theorem Move.staging_cases {s t : State} (h : Move s t) : t.staging = s.staging ∨ t.staging = none ∨
    ∃ (r : Fin 8) (policy : RetestPolicy) (advice : BreachAdvice) (w : ScalarsWire) (entries : List EntryWire)
      (n : Nat), t.staging = some ⟨r, storedScalars policy advice w, entries.map storedEntry, n⟩ := by
  cases h with
  | quiet h => exact .inl h.staging
  | reset => exact .inr (.inl rfl)
  | stage r policy advice w entries n => exact .inr (.inr ⟨r, policy, advice, w, entries, n, rfl⟩)
  | commitRecipe r g entries hg hu => exact .inr (.inl rfl)
  | clearAll => exact .inr (.inl rfl)
  | retireLot k tag =>
    have : ∀ (is : List (Fin 64)) (s : State), (is.foldl State.retire s).staging = s.staging := by
      intro is
      induction is with
      | nil => exact fun _ => rfl
      | cons i rest ih => exact fun s => (ih (s.retire i)).trans (State.retire_staging s i)
    exact .inl (this _ s)
  | endClearing i rest h =>
    unfold State.endClearing
    dsimp only
    split
    · exact .inl (by simp [State.hand])
    · exact .inl rfl
  | leaveRetirement i =>
    obtain he | ⟨k, r, _, _, ⟨_, he⟩ | ⟨_, he⟩⟩ := s.leaveRetirement_cases i <;> rw [he] <;> exact .inl rfl
  | endSweep x rest => exact .inl (by simp [State.endSweep, State.hand])
  | change i w => exact .inl (State.settle_staging s i w)
  | releaseWafer i => exact .inl (State.setMember_staging _ _ _)
  | retire i => exact .inl (State.retire_staging s i)
  | reopen c tag i => exact .inl (by simp [Machine.reopen])
  | _ => exact .inl rfl

end Sys2Proof.Machine
end

section
/-! PROOFS. The laws of the records and of the maps under their recipes are kept by every step (R1 to R11, R18). -/

namespace Sys2Proof.Machine

open Sys2Proof.Safety

/-! ### The cells after a change -/

/-- A cell change leaves the cell records, or writes one: judged by the recipe, excluded, or blank. -/
theorem CellStep.cells {r : Recipe} {w v : Wafer} (h : CellStep r w v) : v.slot.cells = w.slot.cells ∨
    ∃ (k : Nat) (c : Cell), v.slot.cells = w.slot.cells.write k c ∧
      (Judged r (w.slot.cell k) c ∨ c = Cell.excludedCell ∨ c = Cell.blank) := by
  cases h with
  | shadow => exact .inl rfl
  | keep k c hk ht hj hb => exact .inr ⟨k, c, rfl, .inl hj⟩
  | add k c hk ht hj => exact .inr ⟨k, c, rfl, .inl hj⟩
  | move k c hk ht hj hb => exact .inr ⟨k, c, rfl, .inl hj⟩
  | excludes k hk ht =>
    refine .inr ⟨k, _, ?_, .inr (.inl rfl)⟩
    obtain hu | he | ht' := isTested_cases (w.slot.cell k)
    · rw [excludeCell_of_untested hu]
      rfl
    · exact absurd he ht
    · rw [excludeCell_of_tested ht']
      rfl
  | includes k hk ht =>
    refine .inr ⟨k, _, ?_, .inr (.inr rfl)⟩
    rw [includeCell_of_excluded ht]
    rfl

/-- Canonical cell records, each of which keeps its law. -/
def LawfulCells (m : Memory) : Prop := m.wf = true ∧ ∀ k : Nat, CellLaw (m.read k)

theorem cellLaw_blank : CellLaw Cell.blank := by constructor <;> simp [Cell.blank]

theorem cellLaw_excludedCell : CellLaw Cell.excludedCell := by constructor <;> simp [Cell.excludedCell]

theorem lawfulCells_nil : LawfulCells [] := ⟨rfl, fun _ => cellLaw_blank⟩

theorem lawfulCells_initial (g : Geometry) : LawfulCells (Memory.initial g) := by
  refine ⟨Memory.wf_initial g, fun k => ?_⟩
  rw [Memory.read_initial]
  split
  exacts [cellLaw_excludedCell, cellLaw_blank]

theorem cellLaw_releaseCell {c : Cell} (h : CellLaw c) : CellLaw (releaseCell c) := by
  unfold releaseCell
  split
  next hf => exact ⟨by simp, fun _ => h.binned (.inr hf), h.attempts, by simp⟩
  next => exact h

theorem LawfulCells.release {m : Memory} (h : LawfulCells m) (size : Nat) : LawfulCells (m.release size) := by
  refine ⟨Memory.wf_release h.1, fun k => ?_⟩
  rw [Memory.read_release]
  split
  exacts [cellLaw_releaseCell (h.2 k), h.2 k]

/-- A judged cell keeps the law under a recipe whose attempt limit is in range. -/
theorem Judged.cellLaw {r : Recipe} {c c' : Cell} (h : Judged r c c') (hr : r.scalars.attemptLimit ≤ 7)
    (hc : CellLaw c) : CellLaw c' where
  bare hs := by
    obtain ht | ⟨hf, _⟩ := h.status <;> obtain hu | he := hs <;> simp_all
  binned _ := by
    obtain ⟨ht, hb⟩ | ⟨hb, _⟩ := h.bin
    · rw [hb]
      exact hc.binned (by simpa [isTested] using ht)
    · exact hb
  attempts := h.attempts.trans (max_le hc.attempts (max_le (by omega) hr))
  forced hf := by
    obtain ht | ⟨_, hsource⟩ := h.status
    · rw [ht] at hf
      cases hf
    · exact hsource

theorem LawfulCells.write {m : Memory} (h : LawfulCells m) (k : Nat) {c : Cell} (hc : CellLaw c) :
    LawfulCells (m.write k c) := by
  refine ⟨Memory.wf_write h.1, fun j => ?_⟩
  rw [Memory.read_write h.1]
  split
  exacts [hc, h.2 j]

theorem CellStep.lawfulCells {r : Recipe} {w v : Wafer} (h : CellStep r w v) (hr : r.scalars.attemptLimit ≤ 7)
    (hw : LawfulCells w.slot.cells) : LawfulCells v.slot.cells := by
  obtain he | ⟨k, c, he, hc⟩ := h.cells <;> rw [he]
  · exact hw
  · obtain hj | rfl | rfl := hc
    exacts [hw.write k (hj.cellLaw hr (hw.2 k)), hw.write k cellLaw_excludedCell, hw.write k cellLaw_blank]

theorem CellSteps.lawfulCells {r : Recipe} {w v : Wafer} (h : CellSteps r w v) (hr : r.scalars.attemptLimit ≤ 7)
    (hw : LawfulCells w.slot.cells) : LawfulCells v.slot.cells := by
  induction h with
  | refl => exact hw
  | tail _ hstep ih => exact hstep.lawfulCells hr ih

/-! ### Recipes -/

theorem scalarsLaw_reset : ScalarsLaw Scalars.reset := by constructor <;> simp [Scalars.reset]

theorem entryLaw_reset : entryLaw BinEntry.reset := by simp [entryLaw, BinEntry.reset]

theorem recipeLaw_reset : RecipeLaw Recipe.reset where
  scalars := scalarsLaw_reset
  entries b := by
    have : Recipe.reset.entries[b] = BinEntry.reset := by simp [Recipe.reset]
    rw [this]
    exact entryLaw_reset
  noBin := by simp [Recipe.reset, BinEntry.reset]
  empty _ := rfl
  loaded h := absurd rfl h

theorem clampRange_mem {lo hi v : Nat} (h : lo ≤ hi) : lo ≤ clampRange lo hi v ∧ clampRange lo hi v ≤ hi := by
  unfold clampRange
  split
  · omega
  · split <;> omega

theorem clampHardBin_mem (v : Nat) : 1 ≤ clampHardBin v ∧ clampHardBin v ≤ 8 := by
  unfold clampHardBin
  split <;> omega

/-- R11: clamped scalars are in range. -/
theorem scalarsLaw_storedScalars (policy : RetestPolicy) (advice : BreachAdvice) (w : ScalarsWire) :
    ScalarsLaw (storedScalars policy advice w) where
  attemptLimit := clampRange_mem (lo := 1) (hi := 7) (by omega)
  floors := ⟨(clampRange_mem (lo := 0) (hi := 10000) (by omega)).2,
    (clampRange_mem (lo := 0) (hi := 10000) (by omega)).2⟩
  minSample := clampRange_mem (lo := 1) (hi := 65535) (by omega)
  hysteresis := (clampRange_mem (lo := 0) (hi := 1000) (by omega)).2
  runLimit := by
    have := w.runLimit.isLt
    simp only [storedScalars, clampRunLimit]
    split <;> omega

/-- R11: a stored entry is in range, and at its reset values when it was sent not defined. -/
theorem entryLaw_storedEntry (e : EntryWire) : entryLaw (storedEntry e) := by
  unfold storedEntry
  split
  · exact ⟨nofun, (clampHardBin_mem _).1, (clampHardBin_mem _).2, (clampRange_mem (Nat.zero_le _)).2,
      (clampRange_mem (Nat.zero_le _)).2⟩
  · exact entryLaw_reset

theorem recipeStateOf_ne_empty (entries : Vector BinEntry 64) : recipeStateOf entries ≠ .empty := by
  unfold recipeStateOf
  split <;> exact nofun

theorem entryTable_get (entries : List BinEntry) (b : Fin 64) :
    (entryTable entries)[b] = (BinEntry.reset :: entries).getD b.val BinEntry.reset := by
  simp [entryTable]

theorem committed_entries (old : Recipe) (g : Staging) (entries : List EntryWire) :
    (committed old g entries).entries = entryTable (g.entries ++ entries.map storedEntry) := rfl

theorem committed_state (old : Recipe) (g : Staging) (entries : List EntryWire) :
    (committed old g entries).state = recipeStateOf (committed old g entries).entries := by
  simp only [committed]

/-- R10: a committed record keeps the law when the staging does. -/
theorem recipeLaw_committed (old : Recipe) {g : Staging} (entries : List EntryWire) (hs : ScalarsLaw g.scalars)
    (he : ∀ e ∈ g.entries, entryLaw e) : RecipeLaw (committed old g entries) where
  scalars := hs
  entries b := by
    have hall : ∀ e ∈ BinEntry.reset :: (g.entries ++ entries.map storedEntry), entryLaw e := by
      intro e hmem
      simp only [List.mem_cons, List.mem_append, List.mem_map] at hmem
      obtain rfl | hold | ⟨w, _, rfl⟩ := hmem
      exacts [entryLaw_reset, he e hold, entryLaw_storedEntry w]
    rw [committed_entries, entryTable_get, List.getD_eq_getElem?_getD]
    cases hget : (BinEntry.reset :: (g.entries ++ entries.map storedEntry))[b.val]? with
    | none => exact entryLaw_reset
    | some e => exact hall e (List.mem_of_getElem? hget)
  noBin := by
    rw [committed_entries, entryTable_get]
    simp [BinEntry.reset]
  empty h := by
    rw [committed_state] at h
    exact absurd h (recipeStateOf_ne_empty _)
  loaded _ := committed_state old g entries

/-! ### The law of the records -/

theorem recipeLaw_recipeAt {s : State} (h : RecordsLaw s) (r : Option (Fin 8)) : RecipeLaw (s.recipeAt r) := by
  cases r with
  | none => exact recipeLaw_reset
  | some r => exact h.recipes r

theorem recordsLaw_lawfulCells {s : State} (h : RecordsLaw s) (j : Fin 64) : LawfulCells s.slots[j].cells :=
  ⟨h.memory j, h.cells j⟩

theorem SlotMove.lawfulCells {s : State} {j : Fin 64} {sl : Slot} (h : SlotMove s j sl) (hs : RecordsLaw s) :
    LawfulCells sl.cells := by
  have hold := recordsLaw_lawfulCells hs j
  cases h with
  | reset => exact lawfulCells_nil
  | freed => exact lawfulCells_nil
  | opened o => exact lawfulCells_initial _
  | reopened =>
    simp only [Slot.reopened]
    split
    exacts [hold, hold.release _]
  | changed w l _ hw => exact hw.lawfulCells (recipeLaw_recipeAt hs _).scalars.attemptLimit.2 hold
  | _ => exact hold

theorem Move.keeps_recordsLaw {s t : State} (h : Move s t) (hs : RecordsLaw s) : RecordsLaw t where
  recipes r := by
    obtain he | rfl | ⟨k, g, entries, hg, _, he, _⟩ := h.recipes_cases
    · rw [he]
      exact hs.recipes r
    · have : State.reset.recipes[r] = Recipe.reset := by simp [State.reset]
      rw [this]
      exact recipeLaw_reset
    · obtain ⟨hscalars, hentries⟩ := hs.staging g hg
      have hnew := recipeLaw_committed s.recipes[k] entries hscalars hentries
      have hold := hs.recipes r
      rw [he]
      by_cases hk : k = r
      · subst hk
        simpa using hnew
      · simpa [Fin.val_inj, hk] using hold
  staging g hg := by
    obtain he | he | ⟨r, policy, advice, w, entries, n, he⟩ := h.staging_cases <;> rw [he] at hg
    · exact hs.staging g hg
    · cases hg
    · cases hg
      refine ⟨scalarsLaw_storedScalars policy advice w, fun e hmem => ?_⟩
      obtain ⟨x, _, rfl⟩ := List.mem_map.1 hmem
      exact entryLaw_storedEntry x
  memory i := ((h.slot i).lawfulCells hs).1
  cells i := ((h.slot i).lawfulCells hs).2

/-! ### The law of maps under their recipes -/

/-- A cell is within a recipe: its bin is defined there when it is tested, and its attempts are within the limit. -/
def CellWithin (r : Recipe) (c : Cell) : Prop :=
  (isTested c = true → r.entries[c.bin].defined = true) ∧ c.attempts ≤ r.scalars.attemptLimit

/-- Every cell of a map is within a recipe. -/
def CellsWithin (r : Recipe) (m : Memory) : Prop := ∀ k : Nat, CellWithin r (m.read k)

theorem cellWithin_blank (r : Recipe) : CellWithin r Cell.blank := by simp [CellWithin, Cell.blank, isTested]

theorem cellWithin_excludedCell (r : Recipe) : CellWithin r Cell.excludedCell := by
  simp [CellWithin, Cell.excludedCell, isTested]

theorem CellWithin.release {r : Recipe} {c : Cell} (h : CellWithin r c) : CellWithin r (releaseCell c) := by
  unfold releaseCell
  split
  next hf => exact ⟨fun _ => h.1 (by simp [isTested, hf]), h.2⟩
  next => exact h

/-- A judged cell is within its recipe. -/
theorem Judged.cellWithin {r : Recipe} {c c' : Cell} (h : Judged r c c') (hr : 1 ≤ r.scalars.attemptLimit)
    (hc : CellWithin r c) : CellWithin r c' := by
  refine ⟨fun _ => ?_, h.attempts.trans (max_le hc.2 (max_le hr le_rfl))⟩
  obtain ⟨ht, hb⟩ | ⟨_, hdef⟩ := h.bin
  · simpa only [hb] using hc.1 ht
  · exact hdef

theorem CellsWithin.initial (r : Recipe) (g : Geometry) : CellsWithin r (Memory.initial g) := by
  intro k
  rw [Memory.read_initial]
  split
  exacts [cellWithin_excludedCell r, cellWithin_blank r]

theorem CellsWithin.release {r : Recipe} {m : Memory} (h : CellsWithin r m) (size : Nat) :
    CellsWithin r (m.release size) := by
  intro k
  rw [Memory.read_release]
  split
  exacts [(h k).release, h k]

theorem CellStep.cellsWithin {r : Recipe} {w v : Wafer} (h : CellStep r w v) (hr : 1 ≤ r.scalars.attemptLimit)
    (hwf : w.slot.cells.wf = true) (hw : CellsWithin r w.slot.cells) : CellsWithin r v.slot.cells := by
  obtain he | ⟨k, c, he, hc⟩ := h.cells <;> rw [he]
  · exact hw
  · intro j
    rw [Memory.read_write hwf]
    split
    · obtain hj | rfl | rfl := hc
      exacts [hj.cellWithin hr (hw k), cellWithin_excludedCell r, cellWithin_blank r]
    · exact hw j

theorem CellSteps.cellsWithin {r : Recipe} {w v : Wafer} (h : CellSteps r w v) (hr : ScalarsLaw r.scalars)
    (hl : LawfulCells w.slot.cells) (hw : CellsWithin r w.slot.cells) : CellsWithin r v.slot.cells := by
  induction h with
  | refl => exact hw
  | tail hsteps hstep ih =>
    exact hstep.cellsWithin hr.attemptLimit.1 (CellSteps.lawfulCells hsteps hr.attemptLimit.2 hl).1 ih

/-- R6: a recipe that a slot in use reads is named by its lot entry, and so is never committed anew. -/
theorem recipeInUse_of_held {s : State} (hs : LifeLaw s) {j : Fin 64} (hj : s.slots[j].inUse = true) {r : Fin 8}
    (hr : s.slots[j].recipe = some r) : s.recipeInUse r = true := by
  obtain ⟨d, g, _, _, _, hlot, _, hrecipe, _⟩ := hs.held j hj
  refine List.any_eq_true.2 ⟨s.lots[d.lot], Vector.mem_toList_iff.2 (Vector.getElem_mem d.lot.isLt), ?_⟩
  rw [hrecipe] at hr
  simp only [Bool.and_eq_true, bne_iff_ne, beq_iff_eq]
  exact ⟨hlot, hr⟩

/-- A move that is no reset leaves the recipe that a slot in use reads. -/
theorem Move.recipeAt {s t : State} (h : Move s t) (hs : LifeLaw s) (ht : t ≠ State.reset) {j : Fin 64}
    (hj : s.slots[j].inUse = true) : t.recipeAt s.slots[j].recipe = s.recipeOfSlot j := by
  obtain he | he | ⟨r, g, entries, _, hu, he, _⟩ := h.recipes_cases
  · simp only [State.recipeOfSlot, State.recipeAt, he]
  · exact absurd he ht
  · obtain ⟨_, _, _, _, _, _, hsome, _⟩ := hs.held j hj
    obtain ⟨q, hq⟩ := Option.isSome_iff_exists.1 hsome
    have hne : r ≠ q := by
      rintro rfl
      rw [recipeInUse_of_held hs hj hq] at hu
      cases hu
    have hne' : r.val ≠ q.val := fun k => hne (Fin.ext k)
    rw [State.recipeOfSlot, hq]
    simp only [State.recipeAt, he, Fin.getElem_fin]
    exact Vector.getElem_set_ne _ _ hne'

theorem reset_not_inUse (j : Fin 64) : State.reset.slots[j].inUse = false := by
  simp [State.reset, Slot.empty, Slot.inUse]

theorem inUse_iff {sl : Slot} : sl.inUse = true ↔ sl.state ≠ .free ∧ sl.state ≠ .clearing := by
  simp [Slot.inUse]

theorem inUse_eq_false_iff {sl : Slot} : sl.inUse = false ↔ sl.state = .free ∨ sl.state = .clearing := by
  simp [Slot.inUse, or_iff_not_imp_left]

theorem mapLaw_cellsWithin {s : State} (h : MapLaw s) {j : Fin 64} (hj : s.slots[j].inUse = true) :
    CellsWithin (s.recipeOfSlot j) s.slots[j].cells := fun k => ⟨h.bins j hj k, h.attempts j hj k⟩

/-- What a move makes of a slot that holds a map afterwards: a map within the recipe the slot then names. -/
theorem Move.cellsWithin {s t : State} (h : Move s t) (hl : LifeLaw s) (hr : RecordsLaw s) (hm : MapLaw s)
    {j : Fin 64} (hj : t.slots[j].inUse = true) : CellsWithin (t.recipeOfSlot j) t.slots[j].cells := by
  have hreset : t ≠ State.reset := by
    rintro rfl
    rw [reset_not_inUse] at hj
    cases hj
  have hold : s.slots[j].inUse = true → CellsWithin (t.recipeAt s.slots[j].recipe) s.slots[j].cells := fun hu => by
    rw [h.recipeAt hl hreset hu]
    exact mapLaw_cellsWithin hm hu
  rw [State.recipeOfSlot]
  have hslot := h.slot j
  generalize t.slots[j] = sl at hslot hj
  cases hslot with
  | same => exact hold hj
  | reset => cases hj
  | emptied => cases hj
  | forgotten hc => exact absurd hc (inUse_iff.1 hj).2
  | opened o => exact .initial _ _
  | attached => exact hold hj
  | freed => cases hj
  | pinned => exact hold hj
  | busied => exact hold hj
  | released => exact hold hj
  | closing hs => exact hold (inUse_iff.2 (by rw [hs]; exact ⟨nofun, nofun⟩))
  | closed x rest l d hx hk hxj =>
    have hstate : s.slots[j].state = .closing := hxj ▸ ((hl.jobs x (by simp [hx])).1 hk).1
    exact hold (inUse_iff.2 (by rw [hstate]; exact ⟨nofun, nofun⟩))
  | reopened hs =>
    have := hold (inUse_iff.2 (by rw [hs]; exact ⟨nofun, nofun⟩))
    simp only [Slot.reopened]
    split
    exacts [this, this.release _]
  | exporting hs => exact hold (inUse_iff.2 (by rw [hs]; exact ⟨nofun, nofun⟩))
  | exported x hx hxj =>
    have hstate : s.slots[j].state = .exporting := (hl.exporting j).2 ⟨x, hx, hxj⟩
    exact hold (inUse_iff.2 (by rw [hstate]; exact ⟨nofun, nofun⟩))
  | changed w l hs hw =>
    have hu : s.slots[j].inUse = true := inUse_iff.2 (by rw [hs]; exact ⟨nofun, nofun⟩)
    have hrecipe : w.slot.recipe = s.slots[j].recipe := hw.sameWafer.recipe
    dsimp only
    rw [hrecipe, h.recipeAt hl hreset hu]
    exact hw.cellsWithin (recipeLaw_recipeAt hr _).scalars (recordsLaw_lawfulCells hr j) (mapLaw_cellsWithin hm hu)

theorem Move.keeps_mapLaw {s t : State} (h : Move s t) (hl : LifeLaw s) (hr : RecordsLaw s) (hm : MapLaw s) :
    MapLaw t where
  bins _ hi k := (h.cellsWithin hl hr hm hi k).1
  attempts _ hi k := (h.cellsWithin hl hr hm hi k).2

end Sys2Proof.Machine
end

section
/-! PROOFS. The law of lives, part by part: the Clear Unit's list, the holders of identities, the pins, the bindings and
the work of the units; and what one replaced slot, lot or list leaves of each part. -/

namespace Sys2Proof.Machine

open Sys2Proof.Safety

/-! ### The parts of the law -/

/-- The Clear Unit's list holds every CLEARING slot once and no other (R29). -/
structure ClearLaw (list : List (Fin 64)) (slots : Vector Slot 64) : Prop where
  once    : list.Nodup
  exactly : ∀ i : Fin 64, i ∈ list ↔ slots[i].state = .clearing

/-- Slots, lots and their member entries name each other (R19, R36, R120). -/
structure HolderLaw (slots : Vector Slot 64) (lots : Vector Lot 16) : Prop where
  held       : ∀ i : Fin 64, slots[i].inUse = true → ∃ d g, slots[i].identity = some d ∧ slots[i].geometry = some g ∧
                 gridLaw g.rows g.cols ∧ lots[d.lot].state ≠ .free ∧ slots[i].recipe.isSome = true ∧
                 slots[i].recipe = lots[d.lot].recipe ∧ ∃ m ∈ lots[d.lot].members, m.slot = some i ∧ m.wafer = d.wafer
  unheld     : ∀ i : Fin 64, slots[i].inUse = false → slots[i].pendingOpen = none → slots[i].identity = none
  identities : ∀ (i j : Fin 64) (d : Identity), slots[i].identity = some d → slots[j].identity = some d → i = j
  pendings   : ∀ (i : Fin 64) (o : PendingOpen), slots[i].pendingOpen = some o → slots[i].state = .clearing ∧
                 slots[i].identity = some ⟨o.lot, o.wafer⟩ ∧ gridLaw o.rows o.cols ∧ lots[o.lot].state = .opened ∧
                 ∃ m ∈ lots[o.lot].members, m.wafer = o.wafer ∧ m.opening = true
  members    : ∀ (k : Fin 16) (i : Fin 64), ∀ m ∈ lots[k].members, m.slot = some i → slots[i].inUse = true ∧
                 slots[i].identity = some ⟨k, m.wafer⟩ ∧
                 (lots[k].state ≠ .opened → slots[i].state = .closed ∨ slots[i].state = .exporting)
  retiring   : ∀ k : Fin 16, lots[k].state = .retiring → ∀ m ∈ lots[k].members, m.slot = none
  freeLots   : ∀ k : Fin 16, lots[k].state = .free → lots[k] = Lot.free
  namedLots  : ∀ k : Fin 16, lots[k].state ≠ .free → lots[k].recipe.isSome = true

/-- How many slots are pinned. -/
def pinnedCount (slots : Vector Slot 64) : Nat := (List.finRange 64).countP fun (i : Fin 64) => slots[i].pinned

/-- The pin count is the number of pinned slots, all of which hold maps, and at most 16 (R34). -/
structure PinLaw (slots : Vector Slot 64) (pinCount : Nat) : Prop where
  pins   : pinCount = pinnedCount slots ∧ pinCount ≤ 16
  pinned : ∀ i : Fin 64, slots[i].pinned = true → slots[i].inUse = true

/-- An alias entry is bound only to an OPEN slot, and an unbound one holds no run state (R43). -/
structure BindLaw (testers : Vector Tester 12) (slots : Vector Slot 64) : Prop where
  bound   : ∀ (n : Fin 12) (a : Fin 4) (i : Fin 64), testers[n].bindings[a].slot = some i → slots[i].state = .opened
  unbound : ∀ (n : Fin 12) (a : Fin 4), testers[n].bindings[a].slot = none →
              testers[n].bindings[a] = Binding.unbound

/-- Jobs and the export in flight match the busy markers and the states of their slots (R40, R138, R156). -/
structure WorkLaw (slots : Vector Slot 64) (queue : List Job) (transfer : Option Transfer) : Prop where
  jobCount  : queue.length ≤ 8
  jobSlots  : (queue.map (·.slot)).Nodup
  jobs      : ∀ j ∈ queue, (j.kind = .sweep → slots[j.slot].state = .closing ∧ slots[j.slot].busy = some .sweep) ∧
                (j.kind = .digest → (slots[j.slot].state = .opened ∨ slots[j.slot].state = .closed) ∧
                  slots[j.slot].busy = some .digest)
  markers   : ∀ i : Fin 64, (slots[i].busy = some .sweep ∨ slots[i].busy = some .digest → ∃ j ∈ queue, j.slot = i) ∧
                (slots[i].busy = some .transfer → slots[i].state = .exporting)
  exporting : ∀ i : Fin 64, slots[i].state = .exporting ↔ ∃ x, transfer = some x ∧ x.slot = i
  transfers : ∀ x, transfer = some x → slots[x.slot].busy = some .transfer

/-- The law of lives is its five parts. -/
theorem lifeLaw_iff {s : State} : LifeLaw s ↔ ClearLaw s.clearList s.slots ∧ HolderLaw s.slots s.lots ∧
    PinLaw s.slots s.pinCount ∧ BindLaw s.testers s.slots ∧ WorkLaw s.slots s.jobs s.transfer :=
  ⟨fun h => ⟨⟨h.clearOnce, h.clearExactly⟩,
      ⟨h.held, h.unheld, h.identities, h.pendings, h.members, h.retiring, h.freeLots, h.namedLots⟩,
      ⟨h.pins, h.pinned⟩, ⟨h.bound, h.unbound⟩,
      ⟨h.jobCount, h.jobSlots, h.jobs, h.markers, h.exporting, h.transfers⟩⟩,
    fun ⟨hc, hh, hp, hb, hw⟩ => ⟨hc.once, hc.exactly, hh.held, hh.unheld, hh.identities, hh.pendings, hh.members,
      hh.retiring, hh.freeLots, hh.namedLots, hp.pins, hp.pinned, hb.bound, hb.unbound, hw.jobCount, hw.jobSlots,
      hw.jobs, hw.markers, hw.exporting, hw.transfers⟩⟩

/-- Reading a record after one is replaced. -/
theorem get_set {α : Type} {n : Nat} (v : Vector α n) (i j : Fin n) (x : α) :
    (v.set i x)[j] = if i = j then x else v[j] := by
  simp [Vector.getElem_set, Fin.val_inj]

theorem get_set_self {α : Type} {n : Nat} (v : Vector α n) (i : Fin n) (x : α) : (v.set i x)[i] = x := by simp

theorem get_set_ne {α : Type} {n : Nat} (v : Vector α n) {i j : Fin n} (x : α) (h : i ≠ j) :
    (v.set i x)[j] = v[j] := by rw [get_set, if_neg h]

/-! ### The Clear Unit's list -/

section Clear

variable {list : List (Fin 64)} {slots : Vector Slot 64}

theorem ClearLaw.set (h : ClearLaw list slots) (i : Fin 64) {sl : Slot}
    (hs : sl.state = .clearing ↔ slots[i].state = .clearing) : ClearLaw list (slots.set i sl) := by
  refine ⟨h.once, fun j => ?_⟩
  rw [h.exactly, get_set]
  split
  next hij => rw [hs, hij]
  next => rfl

/-- A slot enters CLEARING at the tail of the list. -/
theorem ClearLaw.enter (h : ClearLaw list slots) {i : Fin 64} {sl : Slot} (hi : slots[i].state ≠ .clearing)
    (hs : sl.state = .clearing) : ClearLaw (list ++ [i]) (slots.set i sl) := by
  refine ⟨?_, fun j => ?_⟩
  · rw [List.nodup_append_comm, List.singleton_append, List.nodup_cons]
    exact ⟨fun hmem => hi ((h.exactly i).1 hmem), h.once⟩
  · rw [get_set, List.mem_append, List.mem_singleton, h.exactly]
    split
    next hij => simp [hs, hij]
    next hij => simp [Ne.symm hij]

/-- The slot at the head of the list leaves CLEARING. -/
theorem ClearLaw.leave {i : Fin 64} (h : ClearLaw (i :: list) slots) {sl : Slot} (hs : sl.state ≠ .clearing) :
    ClearLaw list (slots.set i sl) := by
  obtain ⟨hi, hrest⟩ := List.nodup_cons.1 h.once
  refine ⟨hrest, fun j => ?_⟩
  rw [get_set]
  split
  next hij => simp [← hij, hi, hs]
  next hij => rw [← h.exactly, List.mem_cons, or_iff_right (Ne.symm hij)]

end Clear

/-! ### The pins -/

section Pins

variable {slots : Vector Slot 64} {n : Nat}

theorem countP_update {α : Type} {l : List α} (hl : l.Nodup) {a : α} (ha : a ∈ l) (p q : α → Bool)
    (h : ∀ b ∈ l, b ≠ a → q b = p b) : l.countP q + (p a).toNat = l.countP p + (q a).toNat := by
  induction l with
  | nil => cases ha
  | cons b l ih =>
    obtain ⟨hb, hl⟩ := List.nodup_cons.1 hl
    rw [List.countP_cons, List.countP_cons]
    obtain rfl | ha := List.mem_cons.1 ha
    · have : l.countP q = l.countP p :=
        List.countP_congr fun c hc => by rw [h c (List.mem_cons_of_mem _ hc) (fun k => hb (k ▸ hc))]
      cases p a <;> cases q a <;> simp [this]
    · have hab : b ≠ a := fun k => hb (k ▸ ha)
      have := ih hl ha fun c hc => h c (List.mem_cons_of_mem _ hc)
      rw [h b List.mem_cons_self hab]
      omega

theorem pinnedCount_set (slots : Vector Slot 64) (i : Fin 64) (sl : Slot) :
    pinnedCount (slots.set i sl) + slots[i].pinned.toNat = pinnedCount slots + sl.pinned.toNat := by
  have := countP_update (List.nodup_finRange 64) (List.mem_finRange i) (fun (j : Fin 64) => slots[j].pinned)
    (fun (j : Fin 64) => (slots.set i sl)[j].pinned) fun j _ hj => by rw [get_set_ne slots sl hj.symm]
  rw [get_set_self] at this
  exact this

/-- A slot is replaced and the pin count follows. -/
theorem PinLaw.set (h : PinLaw slots n) {i : Fin 64} {sl : Slot} {m : Nat}
    (hm : m + slots[i].pinned.toNat = n + sl.pinned.toNat) (h16 : m ≤ 16) (hu : sl.pinned = true → sl.inUse = true) :
    PinLaw (slots.set i sl) m := by
  refine ⟨⟨?_, h16⟩, fun j hj => ?_⟩
  · have := pinnedCount_set slots i sl
    have := h.pins.1
    omega
  · rw [get_set] at hj ⊢
    split at hj
    next hij => rw [if_pos hij]; exact hu hj
    next hij => rw [if_neg hij]; exact h.pinned j hj

/-- A slot is replaced by one that is pinned alike and still holds a map. -/
theorem PinLaw.set_same (h : PinLaw slots n) {i : Fin 64} {sl : Slot} (hp : sl.pinned = slots[i].pinned)
    (hu : slots[i].inUse = true → sl.inUse = true) : PinLaw (slots.set i sl) n :=
  h.set (by rw [hp]) h.pins.2 fun k => hu (h.pinned i (hp ▸ k))

/-- A slot that holds no map, and so is not pinned, is replaced by one that is not pinned. -/
theorem PinLaw.set_unpinned (h : PinLaw slots n) {i : Fin 64} {sl : Slot} (hi : slots[i].inUse = false)
    (hp : sl.pinned = false) : PinLaw (slots.set i sl) n := by
  have hold : slots[i].pinned = false := by
    by_contra hpin
    rw [h.pinned i (by simpa using hpin)] at hi
    cases hi
  exact h.set (by rw [hp, hold]) h.pins.2 fun k => absurd (hp ▸ k) nofun

theorem PinLaw.pinned_le (h : PinLaw slots n) (i : Fin 64) : slots[i].pinned.toNat ≤ n := by
  rw [h.pins.1]
  cases hp : slots[i].pinned with
  | false => exact Nat.zero_le _
  | true => exact List.countP_pos_iff.2 ⟨i, List.mem_finRange i, hp⟩

/-- R32: entry to CLEARING releases the slot's pin. -/
theorem PinLaw.release (h : PinLaw slots n) {i : Fin 64} {sl : Slot} (hp : sl.pinned = false) :
    PinLaw (slots.set i sl) (n - slots[i].pinned.toNat) := by
  refine h.set ?_ ((Nat.sub_le _ _).trans h.pins.2) fun k => absurd (hp ▸ k) nofun
  rw [hp, Nat.sub_add_cancel (h.pinned_le i)]
  rfl

end Pins

/-! ### The bindings -/

section Bindings

variable {testers : Vector Tester 12} {slots : Vector Slot 64}

theorem BindLaw.set (h : BindLaw testers slots) (i : Fin 64) {sl : Slot}
    (hs : slots[i].state = .opened → sl.state = .opened) : BindLaw testers (slots.set i sl) := by
  refine ⟨fun n a j hj => ?_, h.unbound⟩
  have := h.bound n a j hj
  rw [get_set]
  split
  next hij => exact hs (by rw [hij]; exact this)
  next => exact this

/-- One alias entry is replaced. -/
theorem BindLaw.rebind (h : BindLaw testers slots) (n : Fin 12) (a : Fin 4) {e : Binding}
    (hbound : ∀ i, e.slot = some i → slots[i].state = .opened) (hunbound : e.slot = none → e = Binding.unbound) :
    BindLaw (testers.set n { testers[n] with bindings := testers[n].bindings.set a e }) slots := by
  have hget : ∀ (n' : Fin 12) (a' : Fin 4),
      (testers.set n { testers[n] with bindings := testers[n].bindings.set a e })[n'].bindings[a'] = e ∨
      (testers.set n { testers[n] with bindings := testers[n].bindings.set a e })[n'].bindings[a'] =
        testers[n'].bindings[a'] := by
    intro n' a'
    rw [get_set]
    split
    next hn =>
      rw [get_set]
      split
      exacts [.inl rfl, .inr (by rw [hn])]
    next => exact .inr rfl
  refine ⟨fun n' a' i hi => ?_, fun n' a' hi => ?_⟩
  · obtain he | he := hget n' a' <;> rw [he] at hi
    exacts [hbound i hi, h.bound n' a' i hi]
  · obtain he | he := hget n' a' <;> rw [he] at hi ⊢
    exacts [hunbound hi, h.unbound n' a' hi]

theorem State.unbindAll_get (s : State) (i : Fin 64) (n : Fin 12) (a : Fin 4) :
    (s.unbindAll i).testers[n].bindings[a] =
      if s.testers[n].bindings[a].slot = some i then Binding.unbound else s.testers[n].bindings[a] := by
  simp [State.unbindAll]

/-- R48: after every entry bound to a slot is unbound, that slot may leave OPEN. -/
theorem BindLaw.unbindAll {s : State} (h : BindLaw s.testers s.slots) (i : Fin 64) (sl : Slot) :
    BindLaw (s.unbindAll i).testers (s.slots.set i sl) := by
  refine ⟨fun n a j hj => ?_, fun n a hj => ?_⟩ <;> rw [State.unbindAll_get] at hj
  · split at hj
    next => cases hj
    next hne =>
      have hij : i ≠ j := fun k => hne (k ▸ hj)
      rw [get_set_ne _ _ hij]
      exact h.bound n a j hj
  · rw [State.unbindAll_get]
    split
    next => rfl
    next hne =>
      rw [if_neg hne] at hj
      exact h.unbound n a hj

/-- Every entry unbound. -/
theorem BindLaw.of_unbound {testers : Vector Tester 12} {slots : Vector Slot 64}
    (h : ∀ (n : Fin 12) (a : Fin 4), testers[n].bindings[a] = Binding.unbound) : BindLaw testers slots :=
  ⟨fun n a _ hi => absurd ((congrArg Binding.slot (h n a)).symm.trans hi) nofun, fun n a _ => h n a⟩

end Bindings

end Sys2Proof.Machine
end

section
/-! PROOFS. The law of lives, continued: the work of the units, and the holders of identities. -/

namespace Sys2Proof.Machine

open Sys2Proof.Safety

/-! ### The work of the units -/

section Work

variable {slots : Vector Slot 64} {queue : List Job} {transfer : Option Transfer}

theorem get_congr {α : Type} {n : Nat} (v : Vector α n) {i j : Fin n} (h : i = j) : v[i] = v[j] := by subst h; rfl

/-- A slot with a job is CLOSING, OPEN or CLOSED, and carries the job's marker. -/
theorem WorkLaw.job_slot (h : WorkLaw slots queue transfer) {j : Job} (hj : j ∈ queue) :
    slots[j.slot].state ≠ .exporting ∧ slots[j.slot].busy ≠ none ∧ slots[j.slot].busy ≠ some .transfer := by
  obtain ⟨hsweep, hdigest⟩ := h.jobs j hj
  cases hk : j.kind with
  | sweep =>
    obtain ⟨hs, hb⟩ := hsweep hk
    rw [hs, hb]
    exact ⟨nofun, nofun, nofun⟩
  | digest =>
    obtain ⟨hs | hs, hb⟩ := hdigest hk <;> rw [hs, hb] <;> exact ⟨nofun, nofun, nofun⟩

/-- A slot that keeps its state and its marker. -/
theorem WorkLaw.set_same (h : WorkLaw slots queue transfer) (i : Fin 64) {sl : Slot}
    (hs : sl.state = slots[i].state) (hb : sl.busy = slots[i].busy) : WorkLaw (slots.set i sl) queue transfer := by
  have hstate : ∀ j : Fin 64, (slots.set i sl)[j].state = slots[j].state := fun j => by
    rw [get_set]
    split
    exacts [by subst i; exact hs, rfl]
  have hbusy : ∀ j : Fin 64, (slots.set i sl)[j].busy = slots[j].busy := fun j => by
    rw [get_set]
    split
    exacts [by subst i; exact hb, rfl]
  refine ⟨h.jobCount, h.jobSlots, fun j hj => ?_, fun j => ?_, fun j => ?_, fun x hx => ?_⟩
  · rw [hstate, hbusy]
    exact h.jobs j hj
  · rw [hstate, hbusy]
    exact h.markers j
  · rw [hstate]
    exact h.exporting j
  · rw [hbusy]
    exact h.transfers x hx

/-- A slot with no marker takes another record with no marker. -/
theorem WorkLaw.set_idle (h : WorkLaw slots queue transfer) {i : Fin 64} {sl : Slot} (hold : slots[i].busy = none)
    (holds : slots[i].state ≠ .exporting) (hb : sl.busy = none) (hs : sl.state ≠ .exporting) :
    WorkLaw (slots.set i sl) queue transfer := by
  refine ⟨h.jobCount, h.jobSlots, fun j hj => ?_, fun j => ?_, fun j => ?_, fun x hx => ?_⟩
  · have hij : i ≠ j.slot := by
      rintro rfl
      exact (h.job_slot hj).2.1 hold
    rw [get_set_ne _ _ hij]
    exact h.jobs j hj
  · rw [get_set]
    split
    · rw [hb]
      exact ⟨nofun, nofun⟩
    · exact h.markers j
  · rw [get_set]
    split
    next hij =>
      subst hij
      exact ⟨fun k => absurd k hs, fun k => absurd ((h.exporting i).2 k) holds⟩
    next => exact h.exporting j
  · have hij : i ≠ x.slot := by
      rintro rfl
      have := h.transfers x hx
      rw [hold] at this
      cases this
    rw [get_set_ne _ _ hij]
    exact h.transfers x hx

/-- Jobs that read on keep kind and slot. -/
theorem WorkLaw.jobs_congr (h : WorkLaw slots queue transfer) {queue' : List Job}
    (hq : queue'.map (fun j => (j.kind, j.slot)) = queue.map fun j => (j.kind, j.slot)) :
    WorkLaw slots queue' transfer := by
  have hslots : queue'.map (·.slot) = queue.map (·.slot) := by
    have := congrArg (List.map Prod.snd) hq
    rwa [List.map_map, List.map_map] at this
  have hmem : ∀ j ∈ queue', ∃ x ∈ queue, x.kind = j.kind ∧ x.slot = j.slot := fun j hj => by
    have := hq ▸ List.mem_map_of_mem (f := fun j : Job => (j.kind, j.slot)) hj
    simpa using this
  refine ⟨?_, hslots ▸ h.jobSlots, fun j hj => ?_, fun i => ⟨fun hb => ?_, (h.markers i).2⟩, h.exporting, h.transfers⟩
  · rw [← List.length_map (fun j : Job => j.slot), hslots, List.length_map]
    exact h.jobCount
  · obtain ⟨x, hx, hk, hs⟩ := hmem j hj
    rw [← hk, ← get_congr slots hs]
    exact h.jobs x hx
  · obtain ⟨j, hj, rfl⟩ := (h.markers i).1 hb
    have : j.slot ∈ queue'.map (·.slot) := hslots ▸ List.mem_map_of_mem hj
    simpa using this

/-- A job joins the queue, and its slot, which had no marker, carries its marker. -/
theorem WorkLaw.push (h : WorkLaw slots queue transfer) {j : Job} {sl : Slot} (hlen : queue.length < 8)
    (hold : slots[j.slot].busy = none) (holds : slots[j.slot].state ≠ .exporting)
    (hsweep : j.kind = .sweep → sl.state = .closing ∧ sl.busy = some .sweep)
    (hdigest : j.kind = .digest → (sl.state = .opened ∨ sl.state = .closed) ∧ sl.busy = some .digest) :
    WorkLaw (slots.set j.slot sl) (queue ++ [j]) transfer := by
  have hne : ∀ x ∈ queue, j.slot ≠ x.slot := fun x hx k =>
    (h.job_slot hx).2.1 (get_congr slots k ▸ hold)
  have hsl : sl.state ≠ .exporting ∧ sl.busy ≠ some .transfer := by
    cases hk : j.kind with
    | sweep =>
      obtain ⟨hs, hb⟩ := hsweep hk
      rw [hs, hb]
      exact ⟨nofun, nofun⟩
    | digest =>
      obtain ⟨hs | hs, hb⟩ := hdigest hk <;> rw [hs, hb] <;> exact ⟨nofun, nofun⟩
  refine ⟨?_, ?_, fun x hx => ?_, fun i => ?_, fun i => ?_, fun x hx => ?_⟩
  · rw [List.length_append]
    exact hlen
  · rw [List.map_append, List.nodup_append_comm, List.map_singleton, List.singleton_append, List.nodup_cons]
    refine ⟨fun hmem => ?_, h.jobSlots⟩
    obtain ⟨x, hx, hxj⟩ := List.mem_map.1 hmem
    exact hne x hx hxj.symm
  · obtain hx | hx := List.mem_append.1 hx
    · rw [get_set_ne _ _ (hne x hx)]
      exact h.jobs x hx
    · obtain rfl := List.mem_singleton.1 hx
      rw [get_set_self]
      exact ⟨hsweep, hdigest⟩
  · rw [get_set]
    split
    next hij => exact ⟨fun _ => ⟨j, by simp, hij⟩, fun k => absurd k hsl.2⟩
    next =>
      refine ⟨fun hb => ?_, (h.markers i).2⟩
      obtain ⟨x, hx, hxi⟩ := (h.markers i).1 hb
      exact ⟨x, List.mem_append_left _ hx, hxi⟩
  · rw [get_set]
    split
    next hij =>
      subst hij
      exact ⟨fun k => absurd k hsl.1, fun k => absurd ((h.exporting _).2 k) holds⟩
    next => exact h.exporting i
  · have hij : j.slot ≠ x.slot := by
      intro k
      have := h.transfers x hx
      rw [← get_congr slots k, hold] at this
      cases this
    rw [get_set_ne _ _ hij]
    exact h.transfers x hx

/-- The running job ends, and its slot loses the marker. -/
theorem WorkLaw.pop {j : Job} (h : WorkLaw slots (j :: queue) transfer) {sl : Slot} (hb : sl.busy = none)
    (hs : sl.state ≠ .exporting) : WorkLaw (slots.set j.slot sl) queue transfer := by
  obtain ⟨hj, hrest⟩ := List.nodup_cons.1 h.jobSlots
  have hne : ∀ x ∈ queue, j.slot ≠ x.slot := fun x hx k =>
    hj (List.mem_map.2 ⟨x, hx, k.symm⟩)
  obtain ⟨hjs, _, hjb⟩ := h.job_slot List.mem_cons_self
  refine ⟨(Nat.le_succ _).trans h.jobCount, hrest, fun x hx => ?_, fun i => ?_, fun i => ?_, fun x hx => ?_⟩
  · rw [get_set_ne _ _ (hne x hx)]
    exact h.jobs x (List.mem_cons_of_mem _ hx)
  · rw [get_set]
    split
    · rw [hb]
      exact ⟨nofun, nofun⟩
    next hij =>
      refine ⟨fun k => ?_, (h.markers i).2⟩
      obtain ⟨x, hx, hxi⟩ := (h.markers i).1 k
      obtain rfl | hx := List.mem_cons.1 hx
      exacts [absurd hxi hij, ⟨x, hx, hxi⟩]
  · rw [get_set]
    split
    next hij =>
      subst hij
      exact ⟨fun k => absurd k hs, fun k => absurd ((h.exporting _).2 k) hjs⟩
    next => exact h.exporting i
  · have hij : j.slot ≠ x.slot := fun k => hjb ((get_congr slots k) ▸ h.transfers x hx)
    rw [get_set_ne _ _ hij]
    exact h.transfers x hx

/-- An export starts on a slot without a marker. -/
theorem WorkLaw.start (h : WorkLaw slots queue none) {x : Transfer} {sl : Slot} (hold : slots[x.slot].busy = none)
    (hs : sl.state = .exporting) (hb : sl.busy = some .transfer) :
    WorkLaw (slots.set x.slot sl) queue (some x) := by
  have hnot : ∀ i : Fin 64, slots[i].state ≠ .exporting := fun i k => by
    obtain ⟨y, hy, _⟩ := (h.exporting i).1 k
    cases hy
  refine ⟨h.jobCount, h.jobSlots, fun j hj => ?_, fun i => ?_, fun i => ?_, fun y hy => ?_⟩
  · have hij : x.slot ≠ j.slot := fun k => (h.job_slot hj).2.1 (get_congr slots k ▸ hold)
    rw [get_set_ne _ _ hij]
    exact h.jobs j hj
  · rw [get_set]
    split
    · rw [hb]
      exact ⟨nofun, fun _ => hs⟩
    · exact h.markers i
  · rw [get_set]
    split
    next hij => exact ⟨fun _ => ⟨x, rfl, hij⟩, fun _ => hs⟩
    next hij =>
      refine ⟨fun k => absurd k (hnot i), fun ⟨y, hy, hyi⟩ => ?_⟩
      cases hy
      exact absurd hyi hij
  · cases hy
    rw [get_set_self]
    exact hb

/-- The export ends, and its slot loses the marker. -/
theorem WorkLaw.finish {x : Transfer} (h : WorkLaw slots queue (some x)) {sl : Slot} (hs : sl.state ≠ .exporting)
    (hb : sl.busy = none) : WorkLaw (slots.set x.slot sl) queue none := by
  refine ⟨h.jobCount, h.jobSlots, fun j hj => ?_, fun i => ?_, fun i => ?_, nofun⟩
  · have hij : x.slot ≠ j.slot := fun k => (h.job_slot hj).1 (get_congr slots k ▸ (h.exporting x.slot).2 ⟨x, rfl, rfl⟩)
    rw [get_set_ne _ _ hij]
    exact h.jobs j hj
  · rw [get_set]
    split
    · rw [hb]
      exact ⟨nofun, nofun⟩
    · exact h.markers i
  · rw [get_set]
    split
    next => exact ⟨fun k => absurd k hs, fun ⟨_, k, _⟩ => nomatch k⟩
    next hij =>
      refine ⟨fun k => ?_, fun ⟨_, k, _⟩ => nomatch k⟩
      obtain ⟨y, hy, hyi⟩ := (h.exporting i).1 k
      cases hy
      exact absurd hyi hij

/-- The export goes on, on the same slot. -/
theorem WorkLaw.transfer_congr {x y : Transfer} (h : WorkLaw slots queue (some x)) (hy : y.slot = x.slot) :
    WorkLaw slots queue (some y) := by
  refine ⟨h.jobCount, h.jobSlots, h.jobs, h.markers, fun i => ?_, fun z hz => ?_⟩
  · rw [h.exporting]
    simp [hy]
  · cases hz
    rw [get_congr slots hy]
    exact h.transfers x rfl

end Work

/-! ### The holders of identities: slots -/

section Holders

variable {slots : Vector Slot 64} {lots : Vector Lot 16}

/-- A slot record that holds the same wafer in the same way. -/
structure SameHolder (lots : Vector Lot 16) (old new : Slot) : Prop where
  identity    : new.identity = old.identity
  geometry    : new.geometry = old.geometry
  recipe      : new.recipe = old.recipe
  pendingOpen : new.pendingOpen = old.pendingOpen
  inUse       : new.inUse = old.inUse
  clearing    : old.state = .clearing → new.state = .clearing
  closed      : ∀ d, old.identity = some d → lots[d.lot].state ≠ .opened →
                  old.state = .closed ∨ old.state = .exporting → new.state = .closed ∨ new.state = .exporting

theorem SameHolder.rfl {sl : Slot} : SameHolder lots sl sl :=
  ⟨Eq.refl _, Eq.refl _, Eq.refl _, Eq.refl _, Eq.refl _, id, fun _ _ _ => id⟩

/-- The same holder in a slot whose state stays. -/
theorem SameHolder.of_state {old new : Slot} (hs : new.state = old.state) (hi : new.identity = old.identity)
    (hg : new.geometry = old.geometry) (hr : new.recipe = old.recipe) (hp : new.pendingOpen = old.pendingOpen) :
    SameHolder lots old new :=
  ⟨hi, hg, hr, hp, by simp [Slot.inUse, hs], hs.trans, fun _ _ _ => by rw [hs]; exact id⟩

/-- A slot in use that changes its state to another in use; leaving CLOSED only with its lot OPEN. -/
theorem SameHolder.of_inUse {old new : Slot} (ho : old.inUse = true) (hn : new.inUse = true)
    (hi : new.identity = old.identity) (hg : new.geometry = old.geometry) (hr : new.recipe = old.recipe)
    (hp : new.pendingOpen = old.pendingOpen)
    (hc : ∀ d, old.identity = some d → lots[d.lot].state ≠ .opened →
      old.state = .closed ∨ old.state = .exporting → new.state = .closed ∨ new.state = .exporting) :
    SameHolder lots old new :=
  ⟨hi, hg, hr, hp, hn.trans ho.symm, fun k => absurd k (inUse_iff.1 ho).2, hc⟩

theorem HolderLaw.set (h : HolderLaw slots lots) (i : Fin 64) {sl : Slot} (hs : SameHolder lots slots[i] sl) :
    HolderLaw (slots.set i sl) lots := by
  have hsame : ∀ j : Fin 64, SameHolder lots slots[j] (slots.set i sl)[j] := fun j => by
    rw [get_set]
    split
    exacts [by subst i; exact hs, .rfl]
  constructor
  case held =>
    intro j hj
    obtain ⟨hi, hg, hr, _, hu, _⟩ := hsame j
    rw [hi, hg, hr]
    exact h.held j (hu ▸ hj)
  case unheld =>
    intro j hj hp
    obtain ⟨hi, _, _, hpo, hu, _⟩ := hsame j
    rw [hi]
    exact h.unheld j (hu ▸ hj) (hpo ▸ hp)
  case identities =>
    intro j k d hj hk
    rw [(hsame _).identity] at hj hk
    exact h.identities j k d hj hk
  case pendings =>
    intro j o ho
    rw [(hsame j).pendingOpen] at ho
    rw [(hsame j).identity]
    obtain ⟨hc, hrest⟩ := h.pendings j o ho
    exact ⟨(hsame j).clearing hc, hrest⟩
  case members =>
    intro k j m hm hmj
    obtain ⟨hu, hid, hclosed⟩ := h.members k j m hm hmj
    obtain ⟨hi, _, _, _, hu', _, hc⟩ := hsame j
    rw [hi, hu']
    exact ⟨hu, hid, fun hk => hc _ hid hk (hclosed hk)⟩
  case retiring => exact h.retiring
  case freeLots => exact h.freeLots
  case namedLots => exact h.namedLots

/-! ### The holders of identities: lots -/

/-- What of a member entry the law of lives reads. -/
def Member.core (m : Member) : Nat × Option (Fin 64) × Bool := (m.wafer, m.slot, m.opening)

/-- Two lot entries alike but for totals, limits, disposition, results of members and retirement set. -/
structure SameLot (old new : Lot) : Prop where
  state   : new.state = old.state
  recipe  : new.recipe = old.recipe
  members : new.members.map Member.core = old.members.map Member.core
  free    : old.state = .free → new = old

theorem SameLot.rfl {l : Lot} : SameLot l l := ⟨Eq.refl _, Eq.refl _, Eq.refl _, fun _ => Eq.refl _⟩

theorem SameLot.mem {old new : Lot} (h : SameLot old new) {m : Member} (hm : m ∈ new.members) :
    ∃ m' ∈ old.members, m'.wafer = m.wafer ∧ m'.slot = m.slot ∧ m'.opening = m.opening := by
  have := h.members ▸ List.mem_map_of_mem (f := Member.core) hm
  simpa [Member.core] using this

theorem SameLot.symm_mem {old new : Lot} (h : SameLot old new) {m : Member} (hm : m ∈ old.members) :
    ∃ m' ∈ new.members, m'.wafer = m.wafer ∧ m'.slot = m.slot ∧ m'.opening = m.opening := by
  have := h.members.symm ▸ List.mem_map_of_mem (f := Member.core) hm
  simpa [Member.core] using this

theorem HolderLaw.lots_congr (h : HolderLaw slots lots) {lots' : Vector Lot 16}
    (hl : ∀ k : Fin 16, SameLot lots[k] lots'[k]) : HolderLaw slots lots' := by
  constructor
  case held =>
    intro i hi
    obtain ⟨d, g, hd, hg, hgrid, hfree, hsome, hrecipe, m, hm, hms, hmw⟩ := h.held i hi
    obtain ⟨m', hm', hw, hs, _⟩ := (hl d.lot).symm_mem hm
    refine ⟨d, g, hd, hg, hgrid, (hl d.lot).state ▸ hfree, hsome, hrecipe.trans (hl d.lot).recipe.symm, m', hm', ?_, ?_⟩
    exacts [hs.trans hms, hw.trans hmw]
  case unheld => exact h.unheld
  case identities => exact h.identities
  case pendings =>
    intro i o ho
    obtain ⟨hc, hid, hgrid, hlot, m, hm, hw, hop⟩ := h.pendings i o ho
    obtain ⟨m', hm', hw', _, hop'⟩ := (hl o.lot).symm_mem hm
    exact ⟨hc, hid, hgrid, (hl o.lot).state.trans hlot, m', hm', hw'.trans hw, hop'.trans hop⟩
  case members =>
    intro k i m hm hmi
    obtain ⟨m', hm', hw, hs, _⟩ := (hl k).mem hm
    have := h.members k i m' hm' (hs.trans hmi)
    rw [hw] at this
    rw [(hl k).state]
    exact this
  case retiring =>
    intro k hk m hm
    obtain ⟨m', hm', _, hs, _⟩ := (hl k).mem hm
    exact hs.symm.trans (h.retiring k ((hl k).state ▸ hk) m' hm')
  case freeLots =>
    intro k hk
    have := (hl k).state ▸ hk
    exact ((hl k).free this).trans (h.freeLots k this)
  case namedLots =>
    intro k hk
    rw [(hl k).recipe]
    exact h.namedLots k ((hl k).state ▸ hk)

end Holders

end Sys2Proof.Machine
end

section
/-! PROOFS. The holders of identities through opens, retirements and the lives of lots. -/

namespace Sys2Proof.Machine

open Sys2Proof.Safety

variable {slots : Vector Slot 64} {lots : Vector Lot 16}

/-- Two lot entries alike in state and recipe: what a change of a member list leaves. -/
structure SameLotHead (old new : Lot) : Prop where
  state  : new.state = old.state
  recipe : new.recipe = old.recipe
  free   : old.state = .free → new = old

theorem SameLotHead.setMembers {k : Fin 16} (ms : List Member) (hf : lots[k].state ≠ .free) (q : Fin 16) :
    SameLotHead lots[q] (lots.set k { lots[k] with members := ms })[q] := by
  rw [get_set]
  split
  next hkq =>
    subst hkq
    exact ⟨rfl, rfl, fun h => absurd h hf⟩
  next => exact ⟨rfl, rfl, fun _ => rfl⟩

/-- The fields of the law of holders that read no member list go with the lot heads. -/
theorem HolderLaw.of_heads (h : HolderLaw slots lots) {slots' : Vector Slot 64} {lots' : Vector Lot 16}
    (hl : ∀ q : Fin 16, SameLotHead lots[q] lots'[q])
    (held : ∀ i : Fin 64, slots'[i].inUse = true → ∃ d g, slots'[i].identity = some d ∧ slots'[i].geometry = some g ∧
      gridLaw g.rows g.cols ∧ lots[d.lot].state ≠ .free ∧ slots'[i].recipe.isSome = true ∧
      slots'[i].recipe = lots[d.lot].recipe ∧ ∃ m ∈ lots'[d.lot].members, m.slot = some i ∧ m.wafer = d.wafer)
    (unheld : ∀ i : Fin 64, slots'[i].inUse = false → slots'[i].pendingOpen = none → slots'[i].identity = none)
    (identities : ∀ (i j : Fin 64) (d : Identity), slots'[i].identity = some d → slots'[j].identity = some d → i = j)
    (pendings : ∀ (i : Fin 64) (o : PendingOpen), slots'[i].pendingOpen = some o → slots'[i].state = .clearing ∧
      slots'[i].identity = some ⟨o.lot, o.wafer⟩ ∧ gridLaw o.rows o.cols ∧ lots[o.lot].state = .opened ∧
      ∃ m ∈ lots'[o.lot].members, m.wafer = o.wafer ∧ m.opening = true)
    (members : ∀ (k : Fin 16) (i : Fin 64), ∀ m ∈ lots'[k].members, m.slot = some i → slots'[i].inUse = true ∧
      slots'[i].identity = some ⟨k, m.wafer⟩ ∧
      (lots[k].state ≠ .opened → slots'[i].state = .closed ∨ slots'[i].state = .exporting))
    (retiring : ∀ k : Fin 16, lots[k].state = .retiring → ∀ m ∈ lots'[k].members, m.slot = none) :
    HolderLaw slots' lots' where
  held i hi := by
    obtain ⟨d, g, hd, hg, hgrid, hf, hsome, hr, hm⟩ := held i hi
    exact ⟨d, g, hd, hg, hgrid, by rwa [(hl _).state], hsome, by rw [(hl _).recipe]; exact hr, hm⟩
  unheld := unheld
  identities := identities
  pendings i o ho := by
    obtain ⟨hc, hid, hgrid, hlot, hm⟩ := pendings i o ho
    exact ⟨hc, hid, hgrid, by rwa [(hl _).state], hm⟩
  members k i m hm hmi := by
    rw [(hl k).state]
    exact members k i m hm hmi
  retiring k hk := retiring k (by rwa [(hl k).state] at hk)
  freeLots k hk := by
    rw [(hl k).state] at hk
    exact ((hl k).free hk).trans (h.freeLots k hk)
  namedLots k hk := by
    rw [(hl k).state] at hk
    rw [(hl k).recipe]
    exact h.namedLots k hk

/-- Every slot with an identity has a member entry of its wafer in its lot, which is not FREE. -/
theorem HolderLaw.member_of_identity (h : HolderLaw slots lots) {i : Fin 64} {d : Identity}
    (hd : slots[i].identity = some d) : ∃ m ∈ lots[d.lot].members, m.wafer = d.wafer := by
  cases hu : slots[i].inUse with
  | true =>
    obtain ⟨d', g, hd', _, _, _, _, _, m, hm, _, hw⟩ := h.held i hu
    obtain rfl := Option.some.inj (hd'.symm.trans hd)
    exact ⟨m, hm, hw⟩
  | false =>
    cases hp : slots[i].pendingOpen with
    | none =>
      rw [h.unheld i hu hp] at hd
      cases hd
    | some o =>
      obtain ⟨_, hid, _, _, m, hm, hw, _⟩ := h.pendings i o hp
      obtain rfl := Option.some.inj (hid.symm.trans hd)
      exact ⟨m, hm, hw⟩

/-! ### Opens -/

/-- A slot record opened for a wafer of lot entry `k` (R27). -/
structure OpenedFor (lots : Vector Lot 16) (k : Fin 16) (w : Nat) (sl : Slot) : Prop where
  state       : sl.state = .opened
  identity    : sl.identity = some ⟨k, w⟩
  recipe      : sl.recipe = lots[k].recipe
  pendingOpen : sl.pendingOpen = none
  geometry    : ∃ g, sl.geometry = some g ∧ gridLaw g.rows g.cols

/-- A CLEARING slot record with a pending open for a wafer of lot entry `k` (R25). -/
structure PendingFor (k : Fin 16) (w : Nat) (sl : Slot) : Prop where
  state       : sl.state = .clearing
  identity    : sl.identity = some ⟨k, w⟩
  pendingOpen : ∃ o, sl.pendingOpen = some o ∧ o.lot = k ∧ o.wafer = w ∧ gridLaw o.rows o.cols

/-- R24, R25: a slot that holds nothing takes a new wafer of an OPEN lot, whose list gains its member entry. -/
theorem HolderLaw.enter (h : HolderLaw slots lots) {i : Fin 64} {k : Fin 16} {w : Nat} {sl : Slot} {m : Member}
    (hi : slots[i].inUse = false) (hp : slots[i].pendingOpen = none) (hk : lots[k].state = .opened)
    (hfresh : ∀ m ∈ lots[k].members, m.wafer ≠ w) (hw : m.wafer = w)
    (hnew : (OpenedFor lots k w sl ∧ m.slot = some i) ∨ (PendingFor k w sl ∧ m.slot = none ∧ m.opening = true)) :
    HolderLaw (slots.set i sl) (lots.set k { lots[k] with members := lots[k].members ++ [m] }) := by
  have hid : sl.identity = some ⟨k, w⟩ := by
    obtain ⟨ho, _⟩ | ⟨ho, _⟩ := hnew <;> exact ho.identity
  have hmem : ∀ (q : Fin 16) (x : Member),
      x ∈ (lots.set k { lots[k] with members := lots[k].members ++ [m] })[q].members ↔
        x ∈ lots[q].members ∨ (q = k ∧ x = m) := by
    intro q x
    rw [get_set]
    split
    next hkq => subst hkq; simp
    next hkq => simp [Ne.symm hkq]
  have hfree : lots[k].state ≠ .free := by rw [hk]; exact nofun
  have hnone : slots[i].identity = none := h.unheld i hi hp
  refine h.of_heads (fun q => SameLotHead.setMembers _ hfree q) (fun j hj => ?_) (fun j hj hpj => ?_)
    (fun j j' d hj hj' => ?_) (fun j o ho => ?_) (fun q j x hx hxj => ?_) (fun q hq x hx => ?_)
  · by_cases hij : i = j
    · subst hij
      rw [get_set_self] at hj ⊢
      obtain ⟨ho, hms⟩ | ⟨ho, _⟩ := hnew
      · obtain ⟨g, hg, hgrid⟩ := ho.geometry
        refine ⟨⟨k, w⟩, g, hid, hg, hgrid, hfree, ?_, ho.recipe, m, (hmem _ _).2 (.inr ⟨rfl, rfl⟩), hms, hw⟩
        rw [ho.recipe]
        exact h.namedLots k hfree
      · exact absurd ho.state (inUse_iff.1 hj).2
    · rw [get_set_ne _ _ hij] at hj ⊢
      obtain ⟨d, g, hd, hg, hgrid, hf, hsome, hr, x, hx, hxs, hxw⟩ := h.held j hj
      exact ⟨d, g, hd, hg, hgrid, hf, hsome, hr, x, (hmem _ _).2 (.inl hx), hxs, hxw⟩
  · by_cases hij : i = j
    · subst hij
      rw [get_set_self] at hj hpj
      obtain ⟨ho, _⟩ | ⟨ho, _⟩ := hnew
      · simp [Slot.inUse, ho.state] at hj
      · obtain ⟨o, hpo, _⟩ := ho.pendingOpen
        rw [hpo] at hpj
        cases hpj
    · rw [get_set_ne _ _ hij] at hj hpj ⊢
      exact h.unheld j hj hpj
  · have hother : ∀ x : Fin 64, slots[x].identity ≠ some ⟨k, w⟩ := fun x hx => by
      obtain ⟨y, hy, hyw⟩ := h.member_of_identity hx
      exact hfresh y hy hyw
    rw [get_set] at hj hj'
    split at hj <;> split at hj'
    next h1 h2 => exact h1.symm.trans h2
    next => exact absurd (hj'.trans (hj.symm.trans hid)) (hother j')
    next => exact absurd (hj.trans (hj'.symm.trans hid)) (hother j)
    next => exact h.identities j j' d hj hj'
  · by_cases hij : i = j
    · subst hij
      rw [get_set_self] at ho ⊢
      obtain ⟨hopen, _⟩ | ⟨hpend, _, hopening⟩ := hnew
      · rw [hopen.pendingOpen] at ho
        cases ho
      · obtain ⟨o', ho', rfl, rfl, hgrid⟩ := hpend.pendingOpen
        obtain rfl := Option.some.inj (ho'.symm.trans ho)
        exact ⟨hpend.state, hid, hgrid, hk, m, (hmem _ _).2 (.inr ⟨rfl, rfl⟩), hw, hopening⟩
    · rw [get_set_ne _ _ hij] at ho ⊢
      obtain ⟨hc, hid', hgrid, hlot, x, hx, hxw, hop⟩ := h.pendings j o ho
      exact ⟨hc, hid', hgrid, hlot, x, (hmem _ _).2 (.inl hx), hxw, hop⟩
  · obtain hx | ⟨rfl, rfl⟩ := (hmem q x).1 hx
    · obtain ⟨hu, hidj, hclosed⟩ := h.members q j x hx hxj
      have hij : i ≠ j := by
        rintro rfl
        rw [hi] at hu
        cases hu
      rw [get_set_ne _ _ hij]
      exact ⟨hu, hidj, hclosed⟩
    · obtain ⟨ho, hms⟩ | ⟨_, hms, _⟩ := hnew
      · obtain rfl := Option.some.inj (hms.symm.trans hxj)
        rw [get_set_self]
        exact ⟨inUse_iff.2 (by rw [ho.state]; exact ⟨nofun, nofun⟩), hw ▸ hid, fun hne => absurd hk hne⟩
      · rw [hms] at hxj
        cases hxj
  · obtain hx | ⟨rfl, _⟩ := (hmem q x).1 hx
    · exact h.retiring q hq x hx
    · rw [hk] at hq
      cases hq

/-- R31: a slot with a pending open opens for it, and its member entry holds the slot. -/
theorem HolderLaw.openPending (h : HolderLaw slots lots) {i : Fin 64} {o : PendingOpen} {sl : Slot}
    (hp : slots[i].pendingOpen = some o) (hsl : OpenedFor lots o.lot o.wafer sl) :
    HolderLaw (slots.set i sl) (lots.set o.lot { lots[o.lot] with
      members := lots[o.lot].members.map fun m =>
        if m.wafer = o.wafer then { m with slot := some i, opening := false } else m }) := by
  obtain ⟨hclearing, hid, _, hopen, m₀, hm₀, hw₀, _⟩ := h.pendings i o hp
  have hfree : lots[o.lot].state ≠ .free := by rw [hopen]; exact nofun
  have hidle : slots[i].inUse = false := inUse_eq_false_iff.2 (.inr hclearing)
  -- a member entry that names another slot, or waits for another wafer, stays
  have hmem : ∀ (q : Fin 16) (x : Member), (q = o.lot → x.wafer ≠ o.wafer) → x ∈ lots[q].members →
      x ∈ (lots.set o.lot { lots[o.lot] with members := lots[o.lot].members.map fun m =>
        if m.wafer = o.wafer then { m with slot := some i, opening := false } else m })[q].members := by
    intro q x hne hx
    rw [get_set]
    split
    next hkq =>
      subst hkq
      exact List.mem_map.2 ⟨x, hx, if_neg (hne rfl)⟩
    next => exact hx
  have hback : ∀ (q : Fin 16) (x : Member),
      x ∈ (lots.set o.lot { lots[o.lot] with members := lots[o.lot].members.map fun m =>
        if m.wafer = o.wafer then { m with slot := some i, opening := false } else m })[q].members →
      x ∈ lots[q].members ∨ (q = o.lot ∧ x.wafer = o.wafer ∧ x.slot = some i) := by
    intro q x hx
    rw [get_set] at hx
    split at hx
    next hkq =>
      obtain ⟨y, hy, rfl⟩ := List.mem_map.1 hx
      split
      next hyw => exact .inr ⟨hkq.symm, hyw, rfl⟩
      next => exact .inl (hkq ▸ hy)
    next => exact .inl hx
  have hother : ∀ {j : Fin 64} {d : Identity}, i ≠ j → slots[j].identity = some d → d.lot = o.lot →
      d.wafer ≠ o.wafer := by
    rintro j ⟨k, w⟩ hij hd rfl rfl
    exact hij (h.identities i j _ hid hd)
  refine h.of_heads (fun q => SameLotHead.setMembers _ hfree q) (fun j hj => ?_) (fun j hj hpj => ?_)
    (fun j j' d hj hj' => ?_) (fun j o' ho' => ?_) (fun q j x hx hxj => ?_) (fun q hq x hx => ?_)
  · by_cases hij : i = j
    · subst hij
      rw [get_set_self]
      obtain ⟨g, hg, hgrid⟩ := hsl.geometry
      refine ⟨⟨o.lot, o.wafer⟩, g, hsl.identity, hg, hgrid, hfree, ?_, hsl.recipe,
        { m₀ with slot := some i, opening := false }, ?_, rfl, hw₀⟩
      · rw [hsl.recipe]
        exact h.namedLots _ hfree
      · rw [get_set_self]
        exact List.mem_map.2 ⟨m₀, hm₀, if_pos hw₀⟩
    · rw [get_set_ne _ _ hij] at hj ⊢
      obtain ⟨d, g, hd, hg, hgrid, hf, hsome, hr, x, hx, hxs, hxw⟩ := h.held j hj
      exact ⟨d, g, hd, hg, hgrid, hf, hsome, hr, x,
        hmem _ _ (fun hq => hxw ▸ hother hij hd hq) hx, hxs, hxw⟩
  · by_cases hij : i = j
    · subst hij
      rw [get_set_self] at hj
      simp [Slot.inUse, hsl.state] at hj
    · rw [get_set_ne _ _ hij] at hj hpj ⊢
      exact h.unheld j hj hpj
  · have hsame : ∀ x : Fin 64, (slots.set i sl)[x].identity = slots[x].identity := fun x => by
      rw [get_set]
      split
      next hix => rw [← get_congr slots hix, hid, hsl.identity]
      next => rfl
    rw [hsame] at hj hj'
    exact h.identities j j' d hj hj'
  · by_cases hij : i = j
    · subst hij
      rw [get_set_self, hsl.pendingOpen] at ho'
      cases ho'
    · rw [get_set_ne _ _ hij] at ho' ⊢
      obtain ⟨hc, hid', hgrid, hlot, x, hx, hxw, hop⟩ := h.pendings j o' ho'
      exact ⟨hc, hid', hgrid, hlot, x, hmem _ _ (fun hq => hxw ▸ hother hij hid' hq) hx, hxw, hop⟩
  · obtain hx | ⟨rfl, hxw, hxi⟩ := hback q x hx
    · obtain ⟨hu, hidj, hclosed⟩ := h.members q j x hx hxj
      have hij : i ≠ j := by
        rintro rfl
        rw [hidle] at hu
        cases hu
      rw [get_set_ne _ _ hij]
      exact ⟨hu, hidj, hclosed⟩
    · obtain rfl := Option.some.inj (hxi.symm.trans hxj)
      rw [get_set_self, hxw]
      exact ⟨inUse_iff.2 (by rw [hsl.state]; exact ⟨nofun, nofun⟩), hsl.identity, fun hne => absurd hopen hne⟩
  · obtain hx | ⟨rfl, _⟩ := hback q x hx
    · exact h.retiring q hq x hx
    · rw [hopen] at hq
      cases hq

/-! ### Retirements and the lives of lots -/

/-- R32: a CLOSED slot is emptied, and its member entry names no slot any more. -/
theorem HolderLaw.retire (h : HolderLaw slots lots) {i : Fin 64} {d : Identity} {sl : Slot} {lots' : Vector Lot 16}
    (hd : slots[i].identity = some d) (hs : sl.state = .clearing)
    (hid : sl.identity = none) (hp : sl.pendingOpen = none)
    (hl : ∀ q : Fin 16, SameLotHead lots[q] lots'[q])
    (hm : ∀ q : Fin 16, lots'[q].members = if d.lot = q then
      lots[q].members.map fun m => if m.wafer = d.wafer then { m with slot := none, retired := true } else m
      else lots[q].members) : HolderLaw (slots.set i sl) lots' := by
  have hidle : sl.inUse = false := inUse_eq_false_iff.2 (.inr hs)
  -- the entries of other wafers stay, and every entry keeps wafer number and opening mark
  have hmem : ∀ (q : Fin 16) (x : Member), (d.lot = q → x.wafer ≠ d.wafer) → x ∈ lots[q].members →
      x ∈ lots'[q].members := by
    intro q x hne hx
    rw [hm]
    split
    next hkq => exact List.mem_map.2 ⟨x, hx, if_neg (hne hkq)⟩
    next => exact hx
  have hpend : ∀ (q : Fin 16) (x : Member), x ∈ lots[q].members →
      ∃ y ∈ lots'[q].members, y.wafer = x.wafer ∧ y.opening = x.opening := by
    intro q x hx
    rw [hm]
    split
    · refine ⟨_, List.mem_map_of_mem hx, ?_⟩
      split <;> exact ⟨rfl, rfl⟩
    · exact ⟨x, hx, rfl, rfl⟩
  have hback : ∀ (q : Fin 16) (x : Member), x ∈ lots'[q].members → x.slot = none ∨
      (x ∈ lots[q].members ∧ (d.lot = q → x.wafer ≠ d.wafer)) := by
    intro q x hx
    rw [hm] at hx
    split at hx
    · obtain ⟨y, hy, rfl⟩ := List.mem_map.1 hx
      split
      next => exact .inl rfl
      next hne => exact .inr ⟨hy, fun _ => hne⟩
    next hq => exact .inr ⟨hx, fun k => absurd k hq⟩
  refine h.of_heads hl (fun j hj => ?_) (fun j hj hpj => ?_) (fun j j' e hj hj' => ?_) (fun j o ho => ?_)
    (fun q j x hx hxj => ?_) (fun q hq x hx => ?_)
  · by_cases hij : i = j
    · subst hij
      rw [get_set_self, hidle] at hj
      cases hj
    · rw [get_set_ne _ _ hij] at hj ⊢
      obtain ⟨e, g, he, hg, hgrid, hf, hsome, hr, x, hx, hxs, hxw⟩ := h.held j hj
      refine ⟨e, g, he, hg, hgrid, hf, hsome, hr, x, hmem _ _ (fun hq hw => hij ?_) hx, hxs, hxw⟩
      have hde : e = d := by
        cases d
        cases e
        simp_all
      exact h.identities i j d hd (hde ▸ he)
  · by_cases hij : i = j
    · subst hij
      rwa [get_set_self]
    · rw [get_set_ne _ _ hij] at hj hpj ⊢
      exact h.unheld j hj hpj
  · rw [get_set] at hj hj'
    split at hj
    · rw [hid] at hj
      cases hj
    · split at hj'
      · rw [hid] at hj'
        cases hj'
      · exact h.identities j j' e hj hj'
  · by_cases hij : i = j
    · subst hij
      rw [get_set_self, hp] at ho
      cases ho
    · rw [get_set_ne _ _ hij] at ho ⊢
      obtain ⟨hc, hid', hgrid, hlot, x, hx, hxw, hop⟩ := h.pendings j o ho
      obtain ⟨y, hy, hyw, hyo⟩ := hpend _ x hx
      exact ⟨hc, hid', hgrid, hlot, y, hy, hyw.trans hxw, hyo.trans hop⟩
  · obtain hnone | ⟨hx, hne⟩ := hback q x hx
    · rw [hnone] at hxj
      cases hxj
    · obtain ⟨huj, hidj, hclosed⟩ := h.members q j x hx hxj
      have hij : i ≠ j := by
        rintro rfl
        rw [hd] at hidj
        cases hidj
        exact hne rfl rfl
      rw [get_set_ne _ _ hij]
      exact ⟨huj, hidj, hclosed⟩
  · obtain hnone | ⟨hx, _⟩ := hback q x hx
    exacts [hnone, h.retiring q hq x hx]

/-- A slot that holds no map and has no pending open keeps none. -/
theorem HolderLaw.idle (h : HolderLaw slots lots) {i : Fin 64} {sl : Slot} (hi : slots[i].inUse = false)
    (hp : slots[i].pendingOpen = none) (hs : sl.inUse = false) (hid : sl.identity = slots[i].identity)
    (hp' : sl.pendingOpen = none) : HolderLaw (slots.set i sl) lots := by
  have hne : ∀ {j : Fin 64}, slots[j].inUse = true → i ≠ j := by
    rintro j hj rfl
    rw [hi] at hj
    cases hj
  have hsame : ∀ x : Fin 64, (slots.set i sl)[x].identity = slots[x].identity := fun x => by
    rw [get_set]
    split
    next hix => rw [hid, get_congr slots hix]
    next => rfl
  refine h.of_heads (fun q => ⟨rfl, rfl, fun _ => rfl⟩) (fun j hj => ?_) (fun j hj hpj => ?_)
    (fun j j' e hj hj' => ?_) (fun j o ho => ?_) (fun q j x hx hxj => ?_) h.retiring
  · by_cases hij : i = j
    · subst hij
      rw [get_set_self, hs] at hj
      cases hj
    · rw [get_set_ne _ _ hij] at hj ⊢
      exact h.held j hj
  · rw [hsame]
    by_cases hij : i = j
    · subst hij
      exact h.unheld i hi hp
    · rw [get_set_ne _ _ hij] at hj hpj
      exact h.unheld j hj hpj
  · rw [hsame] at hj hj'
    exact h.identities j j' e hj hj'
  · by_cases hij : i = j
    · subst hij
      rw [get_set_self, hp'] at ho
      cases ho
    · rw [get_set_ne _ _ hij] at ho ⊢
      exact h.pendings j o ho
  · obtain ⟨hu, hidj, hclosed⟩ := h.members q j x hx hxj
    rw [get_set_ne _ _ (hne hu)]
    exact ⟨hu, hidj, hclosed⟩

/-- A lot entry that no slot's identity names is replaced. -/
theorem HolderLaw.setLot (h : HolderLaw slots lots) {k : Fin 16} {l : Lot}
    (hnone : ∀ (j : Fin 64) (d : Identity), slots[j].identity = some d → d.lot ≠ k)
    (hslots : ∀ m ∈ l.members, m.slot = none) (hfree : l.state = .free → l = Lot.free)
    (hnamed : l.state ≠ .free → l.recipe.isSome = true) : HolderLaw slots (lots.set k l) := by
  constructor
  case held =>
    intro j hj
    obtain ⟨d, g, hd, hrest⟩ := h.held j hj
    refine ⟨d, g, hd, ?_⟩
    rw [get_set_ne _ _ (hnone j d hd).symm]
    exact hrest
  case unheld => exact h.unheld
  case identities => exact h.identities
  case pendings =>
    intro j o ho
    have := h.pendings j o ho
    rwa [get_set_ne _ _ (hnone j _ this.2.1).symm]
  case members =>
    intro q j m hm hmj
    rw [get_set] at hm ⊢
    split at hm
    · rw [hslots m hm] at hmj
      cases hmj
    next hq =>
      rw [if_neg hq]
      exact h.members q j m hm hmj
  case retiring =>
    intro q hq m hm
    rw [get_set] at hq hm
    split at hq
    next hkq =>
      rw [if_pos hkq] at hm
      exact hslots m hm
    next hkq =>
      rw [if_neg hkq] at hm
      exact h.retiring q hq m hm
  case freeLots =>
    intro q hq
    rw [get_set] at hq ⊢
    split at hq
    next hkq => rw [if_pos hkq]; exact hfree hq
    next hkq => rw [if_neg hkq]; exact h.freeLots q hq
  case namedLots =>
    intro q hq
    rw [get_set] at hq ⊢
    split at hq
    next hkq => rw [if_pos hkq]; exact hnamed hq
    next hkq => rw [if_neg hkq]; exact h.namedLots q hq

/-- No slot's identity names a lot that is not OPEN and whose member entries name no slot. -/
theorem HolderLaw.unnamed (h : HolderLaw slots lots) {k : Fin 16} (hk : lots[k].state ≠ .opened)
    (hslots : ∀ m ∈ lots[k].members, m.slot = none) (j : Fin 64) (d : Identity) (hd : slots[j].identity = some d) :
    d.lot ≠ k := by
  rintro rfl
  cases hu : slots[j].inUse with
  | true =>
    obtain ⟨d', g, hd', _, _, _, _, _, m, hm, hms, _⟩ := h.held j hu
    obtain rfl := Option.some.inj (hd'.symm.trans hd)
    rw [hslots m hm] at hms
    cases hms
  | false =>
    cases hp : slots[j].pendingOpen with
    | none =>
      rw [h.unheld j hu hp] at hd
      cases hd
    | some o =>
      obtain ⟨_, hid, _, hopen, _⟩ := h.pendings j o hp
      obtain rfl := Option.some.inj (hid.symm.trans hd)
      exact hk hopen

/-- R130: an OPEN lot with no opening member and no slot in OPEN or CLOSING closes. -/
theorem HolderLaw.closeLot (h : HolderLaw slots lots) {k : Fin 16} {l : Lot} (hk : lots[k].state = .opened)
    (hopening : ∀ m ∈ lots[k].members, m.opening = false)
    (hclosed : ∀ m ∈ lots[k].members, ∀ i, m.slot = some i → slots[i].state ≠ .opened ∧ slots[i].state ≠ .closing)
    (hs : l.state = .closed) (hr : l.recipe = lots[k].recipe) (hm : l.members = lots[k].members) :
    HolderLaw slots (lots.set k l) := by
  have hmem : ∀ q : Fin 16, (lots.set k l)[q].members = lots[q].members := fun q => by
    rw [get_set]
    split
    next hkq => rw [hm, get_congr lots hkq]
    next => rfl
  have hrec : ∀ q : Fin 16, (lots.set k l)[q].recipe = lots[q].recipe := fun q => by
    rw [get_set]
    split
    next hkq => rw [hr, get_congr lots hkq]
    next => rfl
  have hfree : ∀ q : Fin 16, (lots.set k l)[q].state = .free ↔ lots[q].state = .free := fun q => by
    rw [get_set]
    split
    next hkq => rw [hs, ← get_congr lots hkq, hk]; exact ⟨nofun, nofun⟩
    next => rfl
  constructor
  case held =>
    intro j hj
    obtain ⟨d, g, hd, hg, hgrid, hf, hsome, hr', hm'⟩ := h.held j hj
    exact ⟨d, g, hd, hg, hgrid, fun k => hf ((hfree _).1 k), hsome, by rw [hrec]; exact hr', by rw [hmem]; exact hm'⟩
  case unheld => exact h.unheld
  case identities => exact h.identities
  case pendings =>
    intro j o ho
    obtain ⟨hc, hid, hgrid, hlot, m, hmm, hw, hop⟩ := h.pendings j o ho
    have hkq : k ≠ o.lot := by
      rintro rfl
      rw [hopening m hmm] at hop
      cases hop
    rw [get_set_ne _ _ hkq]
    exact ⟨hc, hid, hgrid, hlot, m, hmm, hw, hop⟩
  case members =>
    intro q j m hm' hmj
    rw [hmem] at hm'
    obtain ⟨hu, hid, hc⟩ := h.members q j m hm' hmj
    refine ⟨hu, hid, fun hq => ?_⟩
    rw [get_set] at hq
    split at hq
    next hkq =>
      subst hkq
      obtain ⟨h1, h2⟩ := hclosed m hm' j hmj
      obtain ⟨h3, h4⟩ := inUse_iff.1 hu
      cases hst : slots[j].state <;> simp_all
    next => exact hc hq
  case retiring =>
    intro q hq
    rw [hmem]
    rw [get_set] at hq
    split at hq
    · rw [hs] at hq
      cases hq
    · exact h.retiring q hq
  case freeLots =>
    intro q hq
    rw [get_set]
    split
    next hkq =>
      have := (hfree q).1 hq
      rw [← get_congr lots hkq, hk] at this
      cases this
    next => exact h.freeLots q ((hfree q).1 hq)
  case namedLots =>
    intro q hq
    rw [hrec]
    exact h.namedLots q fun k => hq ((hfree q).2 k)

end Sys2Proof.Machine
end

section
/-! PROOFS. Every step keeps the law of lives: one lemma for each move that is more than one replaced record. -/

namespace Sys2Proof.Machine

open Sys2Proof.Safety

/-! ### Lots after a change of a member entry, and after a change of cells -/

/-- R120: a change of member results leaves what the law of lives reads. -/
theorem setMember_sameLot {s : State} {id : Option Identity} {f : Member → Member} (hf : ∀ m, (f m).core = m.core)
    (hfree : ∀ d, id = some d → s.lots[d.lot].state ≠ .free) (k : Fin 16) :
    SameLot s.lots[k] (s.setMember id f).lots[k] := by
  cases id with
  | none => exact .rfl
  | some d =>
    have hlots : (s.setMember (some d) f).lots = s.lots.set d.lot { s.lots[d.lot] with
        members := s.lots[d.lot].members.map fun m => if m.wafer = d.wafer then f m else m } := rfl
    rw [hlots, get_set]
    split
    next hk =>
      subst hk
      refine ⟨rfl, rfl, ?_, fun h => absurd h (hfree d rfl)⟩
      simp only [List.map_map]
      refine List.map_congr_left fun m _ => ?_
      simp only [Function.comp]
      split
      exacts [hf m, rfl]
    next => exact .rfl

theorem setMember_lots_congr {s t : State} (h : s.lots = t.lots) (id : Option Identity) (f : Member → Member) :
    (s.setMember id f).lots = (t.setMember id f).lots := by
  cases id with
  | none => exact h
  | some d => simp only [State.setMember, State.setLot, h]

/-- A member entry with new results (R145, R149). -/
def Member.withResults (y : Option Nat) (d : Disposition) (m : Member) : Member :=
  { m with finalYield := y, disposition := d }

theorem Member.core_withResults (y : Option Nat) (d : Disposition) (m : Member) :
    (m.withResults y d).core = m.core := rfl

/-- R145: the end of a close sweep changes results of the wafer's member entry, and no other part of a lot. -/
theorem endSweep_lots (s : State) (x : Job) (rest : List Job) : ∃ (y : Option Nat) (d : Disposition),
    (s.endSweep x rest).lots = (s.setMember s.slots[x.slot].identity (Member.withResults y d)).lots := by
  have hid : ((s.evaluateSlot x.slot).1.slots[x.slot].closedBy (x.readTo s.slots[x.slot].cells x.stop).register
      (nextCloseSeq s.closeSeq)).identity = s.slots[x.slot].identity := by
    simp [State.evaluateSlot_fst, Slot.closedBy]
  refine ⟨((s.evaluateSlot x.slot).1.slots[x.slot].closedBy (x.readTo s.slots[x.slot].cells x.stop).register
      (nextCloseSeq s.closeSeq)).finalYield, ((s.evaluateSlot x.slot).1.slots[x.slot].closedBy
      (x.readTo s.slots[x.slot].cells x.stop).register (nextCloseSeq s.closeSeq)).disposition, ?_⟩
  unfold State.endSweep
  simp only [State.hand, State.offerAll_lots]
  rw [hid]
  exact setMember_lots_congr (by simp) _ _

/-- R149: a reopen changes results of the wafer's member entry, and no other part of a lot. -/
theorem reopen_lots (c : Instr) (tag : Byte) (i : Fin 64) (s : State) :
    (reopen c tag i s).state.lots = (s.setMember s.slots[i].identity (Member.withResults none .none)).lots := by
  simp only [reopen, State.setSlot_lots, State.evaluateSlot_lots]
  exact setMember_lots_congr (State.setSlot_lots s i _) _ _

/-- R64, R78: the lots after a change of cells of a slot: the totals of its lot are the workspace's, and only its limit
states are evaluated. -/
theorem settle_lots {s : State} {i : Fin 64} {w : Wafer} {d : Identity} (hd : w.slot.identity = some d) :
    ∃ l : LimitStates, (s.lots[d.lot].limits.marked → l.marked) ∧
      (s.settle i w).1.lots = s.lots.set d.lot { s.lots[d.lot] with totals := w.totals, limits := l } := by
  have hcommit : (s.commit i w).lots = s.lots.set d.lot { s.lots[d.lot] with totals := w.totals } := by
    simp [State.commit, State.putWafer, hd, State.setLot]
  cases hm : w.moved with
  | false =>
    rw [State.settle_of_not_moved hm]
    exact ⟨_, id, hcommit⟩
  | true =>
    have hslot : (s.commit i w).slots[i].identity = some d := by simp [commit_slots, hd]
    rw [State.settle_of_moved hm]
    refine ⟨evaluate (((s.commit i w).evaluateSlot i).1.recipeOfLot d.lot)
      (((s.commit i w).evaluateSlot i).1.recipeOfLot d.lot).scalars.lotFloor w.totals s.lots[d.lot].limits,
      evaluate_marked, ?_⟩
    have hboth : ((s.commit i w).evaluateBoth i).1 = (((s.commit i w).evaluateSlot i).1.evaluateLot d.lot).1 := by
      unfold State.evaluateBoth
      rw [hslot]
    rw [hboth, State.evaluateLot_fst, State.setLot, State.evaluateSlot_lots, hcommit, get_set_self, Vector.set_set]

/-- The jobs after a change of cells keep kind and slot. -/
theorem settle_jobs (s : State) (i : Fin 64) (w : Wafer) : (s.settle i w).1.jobs = (s.readAhead i).jobs := by
  unfold State.settle
  dsimp only
  split <;> simp [State.commit]

theorem readAhead_jobs_core (s : State) (i : Fin 64) :
    (s.readAhead i).jobs.map (fun j => (j.kind, j.slot)) = s.jobs.map fun j => (j.kind, j.slot) := by
  obtain he | ⟨j, rest, hjobs, _, _, he⟩ := s.readAhead_cases i <;> rw [he]
  rw [hjobs]
  rfl

/-! ### The moves -/

/-- The law of lives in its parts, for a state given by its records. -/
theorem lifeLaw_of {s : State} (hc : ClearLaw s.clearList s.slots) (hh : HolderLaw s.slots s.lots)
    (hp : PinLaw s.slots s.pinCount) (hb : BindLaw s.testers s.slots) (hw : WorkLaw s.slots s.jobs s.transfer) :
    LifeLaw s := lifeLaw_iff.2 ⟨hc, hh, hp, hb, hw⟩

theorem openedFor_openedSlot (s : State) {o : PendingOpen} (hg : gridLaw o.rows o.cols) :
    OpenedFor s.lots o.lot o.wafer (openedSlot s o) :=
  ⟨rfl, rfl, rfl, rfl, _, rfl, hg⟩

theorem not_exporting_of_free {s : State} {i : Fin 64} (hi : s.slots[i].inUse = false) :
    s.slots[i].state ≠ .exporting := by
  obtain hst | hst := inUse_eq_false_iff.1 hi <;> rw [hst] <;> exact nofun

section Moves

variable {s : State} (hs : LifeLaw s)
include hs

theorem clearLaw_of : ClearLaw s.clearList s.slots := (lifeLaw_iff.1 hs).1

theorem holderLaw_of : HolderLaw s.slots s.lots := (lifeLaw_iff.1 hs).2.1

theorem pinLaw_of : PinLaw s.slots s.pinCount := (lifeLaw_iff.1 hs).2.2.1

theorem bindLaw_of : BindLaw s.testers s.slots := (lifeLaw_iff.1 hs).2.2.2.1

theorem workLaw_of : WorkLaw s.slots s.jobs s.transfer := (lifeLaw_iff.1 hs).2.2.2.2

/-- The lot that a slot in use names is not FREE. -/
theorem lot_not_free {i : Fin 64} (hi : s.slots[i].inUse = true) {d : Identity} (hd : s.slots[i].identity = some d) :
    s.lots[d.lot].state ≠ .free := by
  obtain ⟨d', g, hd', _, _, hf, _⟩ := hs.held i hi
  obtain rfl := Option.some.inj (hd'.symm.trans hd)
  exact hf

/-- The slot of a job holds a map. -/
theorem job_slot_inUse {j : Job} (hj : j ∈ s.jobs) : s.slots[j.slot].inUse = true := by
  obtain ⟨hsweep, hdigest⟩ := hs.jobs j hj
  refine inUse_iff.2 ?_
  cases hk : j.kind with
  | sweep =>
    rw [(hsweep hk).1]
    exact ⟨nofun, nofun⟩
  | digest =>
    obtain hst | hst := (hdigest hk).1 <;> rw [hst] <;> exact ⟨nofun, nofun⟩

/-- A slot that holds no map carries no marker. -/
theorem busy_none_of_free {i : Fin 64} (hi : s.slots[i].inUse = false) : s.slots[i].busy = none := by
  have hjob : ∀ j ∈ s.jobs, j.slot ≠ i := by
    rintro j hj rfl
    rw [job_slot_inUse hs hj] at hi
    cases hi
  obtain ⟨hm, ht⟩ := hs.markers i
  cases hb : s.slots[i].busy with
  | none => rfl
  | some b =>
    cases b with
    | sweep =>
      obtain ⟨j, hj, hji⟩ := hm (.inl hb)
      exact absurd hji (hjob j hj)
    | digest =>
      obtain ⟨j, hj, hji⟩ := hm (.inr hb)
      exact absurd hji (hjob j hj)
    | transfer =>
      have := ht hb
      obtain hst | hst := inUse_eq_false_iff.1 hi <;> rw [hst] at this <;> cases this

/-- A FREE or CLEARING slot opens for a wafer: pins, bindings and unit work do not see it. -/
theorem lifeLaw_opened {i : Fin 64} {o : PendingOpen} {t : State} (hi : s.slots[i].inUse = false)
    (ht : t.slots = s.slots.set i (openedSlot s o)) (hclear : ClearLaw t.clearList t.slots)
    (hhold : HolderLaw t.slots t.lots) (hpin : t.pinCount = s.pinCount) (htesters : t.testers = s.testers)
    (hjobs : t.jobs = s.jobs) (htransfer : t.transfer = s.transfer) : LifeLaw t := by
  have hidle : s.slots[i].state ≠ .opened := by
    obtain hst | hst := inUse_eq_false_iff.1 hi <;> rw [hst] <;> exact nofun
  refine lifeLaw_of hclear hhold ?_ ?_ ?_
  · rw [ht, hpin]
    exact (pinLaw_of hs).set_unpinned hi rfl
  · rw [ht, htesters]
    exact (bindLaw_of hs).set i fun h => absurd h hidle
  · rw [ht, hjobs, htransfer]
    exact (workLaw_of hs).set_idle (busy_none_of_free hs hi) (not_exporting_of_free hi) rfl nofun

theorem pendingOpen_none_of_free {i : Fin 64} (hi : s.slots[i].state = .free) : s.slots[i].pendingOpen = none := by
  cases hp : s.slots[i].pendingOpen with
  | none => rfl
  | some o =>
    have := (hs.pendings i o hp).1
    rw [hi] at this
    cases this

/-- R24: an open at once. -/
theorem lifeLaw_openNow {i : Fin 64} {o : PendingOpen} (ho : OpenOk s o) (hi : s.slots[i].state = .free) :
    LifeLaw (s.openNow i o) := by
  have hidle := inUse_eq_false_iff.2 (.inl hi)
  refine lifeLaw_opened hs (i := i) (o := o) hidle rfl ?_ ?_ rfl rfl rfl rfl
  · exact (clearLaw_of hs).set i (by rw [hi]; exact ⟨nofun, nofun⟩)
  · exact (holderLaw_of hs).enter hidle (pendingOpen_none_of_free hs hi) ho.lot ho.fresh rfl
      (.inl ⟨openedFor_openedSlot s ho.grid, rfl⟩)

/-- R25: a pending open is attached to a CLEARING slot. -/
theorem lifeLaw_attach {i : Fin 64} {o : PendingOpen} (ho : OpenOk s o) (hi : i ∈ s.clearList)
    (hp : s.slots[i].pendingOpen = none) : LifeLaw (s.attach i o) := by
  have hstate := (hs.clearExactly i).1 hi
  have hidle := inUse_eq_false_iff.2 (.inr hstate)
  refine lifeLaw_of ?_ ?_ ?_ ?_ ?_
  · exact (clearLaw_of hs).set i Iff.rfl
  · exact (holderLaw_of hs).enter hidle hp ho.lot ho.fresh rfl
      (.inr ⟨⟨hstate, rfl, o, rfl, rfl, rfl, ho.grid⟩, rfl, rfl⟩)
  · exact (pinLaw_of hs).set_same rfl id
  · exact (bindLaw_of hs).set i id
  · exact (workLaw_of hs).set_same i rfl rfl

/-- R31: the end of a clearing opens or frees the slot. -/
theorem lifeLaw_endClearing {i : Fin 64} {rest : List (Fin 64)} (h : s.clearList = i :: rest) (ds : List Done) :
    LifeLaw (({ s with clearList := rest }.endClearing i).1.hand ds) := by
  have hstate := (hs.clearExactly i).1 (h ▸ List.mem_cons_self)
  have hidle := inUse_eq_false_iff.2 (.inr hstate)
  have hclear : ClearLaw (i :: rest) s.slots := h ▸ clearLaw_of hs
  unfold State.endClearing
  dsimp only
  split
  next o ho =>
    have hgrid := (hs.pendings i o ho).2.2.1
    refine lifeLaw_opened hs (i := i) (o := o) hidle rfl (hclear.leave nofun) ?_ rfl rfl rfl rfl
    exact (holderLaw_of hs).openPending ho (openedFor_openedSlot s hgrid)
  next hp =>
    refine lifeLaw_of (hclear.leave nofun) ?_ ?_ ?_ ?_
    · exact (holderLaw_of hs).idle hidle hp rfl rfl hp
    · have hpin : s.slots[i].pinned = false := by
        cases hpin : s.slots[i].pinned with
        | false => rfl
        | true => exact absurd ((hs.pinned i hpin).symm.trans hidle) nofun
      exact (pinLaw_of hs).set_unpinned hidle hpin
    · exact (bindLaw_of hs).set i fun k => absurd (hstate.symm.trans k) nofun
    · exact (workLaw_of hs).set_idle (busy_none_of_free hs hidle) (not_exporting_of_free hidle)
        (busy_none_of_free hs hidle) nofun

/-- R32: retirement of a CLOSED slot without a marker. -/
theorem lifeLaw_retire {i : Fin 64} (hi : s.slots[i].state = .closed) (hb : s.slots[i].busy = none) :
    LifeLaw (s.retire i) := by
  have hne : ∀ {x : SlotState}, x ≠ .closed → s.slots[i].state ≠ x := fun hx k => hx (k.symm.trans hi)
  obtain ⟨d, _, hd, _, _, hf, _⟩ := hs.held i (inUse_iff.2 ⟨hne nofun, hne nofun⟩)
  have hslots := retire_slots s i
  refine lifeLaw_of ?_ ?_ ?_ ?_ ?_
  · have hlist : (s.retire i).clearList = s.clearList ++ [i] := by simp [State.retire_eq]
    rw [hslots, hlist]
    exact (clearLaw_of hs).enter (hne nofun) rfl
  · rw [hslots]
    refine (holderLaw_of hs).retire hd rfl rfl rfl (fun q => ?_) fun q => ?_
    · simp only [Fin.getElem_fin, State.retire_lots hd, Fin.val_inj]
      split
      next hq => subst hq; exact ⟨rfl, rfl, fun k => absurd k hf⟩
      next => exact ⟨rfl, rfl, fun _ => rfl⟩
    · simp only [Fin.getElem_fin, State.retire_lots hd, Fin.val_inj]
      split <;> rfl
  · have hpin : (s.retire i).pinCount = s.pinCount - s.slots[i].pinned.toNat := by simp [State.retire_eq]
    rw [hslots, hpin]
    exact (pinLaw_of hs).release rfl
  · rw [hslots, State.retire_testers]
    exact (bindLaw_of hs).set i fun k => absurd k (hne nofun)
  · rw [hslots, State.retire_jobs, State.retire_transfer]
    exact (workLaw_of hs).set_idle hb (hne nofun) rfl nofun

end Moves

/-- R134: the retirements of an RTLT, one after the other. -/
theorem lifeLaw_foldl_retire (is : List (Fin 64)) (hn : is.Nodup) {s : State} (hs : LifeLaw s)
    (h : ∀ i ∈ is, s.slots[i].state = .closed ∧ s.slots[i].busy = none) : LifeLaw (is.foldl State.retire s) := by
  induction is generalizing s with
  | nil => exact hs
  | cons i rest ih =>
    obtain ⟨hi, hrest⟩ := List.nodup_cons.1 hn
    obtain ⟨hstate, hbusy⟩ := h i List.mem_cons_self
    refine ih hrest (lifeLaw_retire hs hstate hbusy) fun j hj => ?_
    have hij : i ≠ j := fun k => hi (k ▸ hj)
    rw [retire_slots, get_set_ne _ _ hij]
    exact h j (List.mem_cons_of_mem _ hj)

/-- A retirement leaves lot states and recipes, and gives no member entry a slot. -/
theorem retire_lot_members (s : State) (i : Fin 64) (k : Fin 16) : (s.retire i).lots[k].state = s.lots[k].state ∧
    (s.retire i).lots[k].recipe = s.lots[k].recipe ∧
    ∀ m ∈ (s.retire i).lots[k].members, m.slot ≠ none → m ∈ s.lots[k].members := by
  cases hid : s.slots[i].identity with
  | none =>
    rw [State.retire_lots_of_none hid]
    exact ⟨rfl, rfl, fun m hm _ => hm⟩
  | some d =>
    simp only [Fin.getElem_fin, State.retire_lots hid]
    split
    · refine ⟨rfl, rfl, fun m hm hne => ?_⟩
      obtain ⟨y, hy, rfl⟩ := List.mem_map.1 hm
      by_cases hw : y.wafer = d.wafer
      · rw [if_pos hw] at hne
        exact absurd rfl hne
      · rwa [if_neg hw]
    · exact ⟨rfl, rfl, fun m hm _ => hm⟩

theorem foldl_retire_lot_members (is : List (Fin 64)) (s : State) (k : Fin 16) :
    (is.foldl State.retire s).lots[k].state = s.lots[k].state ∧
    (is.foldl State.retire s).lots[k].recipe = s.lots[k].recipe ∧
    ∀ m ∈ (is.foldl State.retire s).lots[k].members, m.slot ≠ none → m ∈ s.lots[k].members := by
  induction is generalizing s with
  | nil => exact ⟨rfl, rfl, fun _ hm _ => hm⟩
  | cons i rest ih =>
    obtain ⟨h1, h2, h3⟩ := retire_lot_members s i k
    obtain ⟨h4, h5, h6⟩ := ih (s.retire i)
    exact ⟨h4.trans h1, h5.trans h2, fun m hm hne => h3 m (h6 m hm hne) hne⟩

theorem mem_memberSlots {l : Lot} {i : Fin 64} : i ∈ l.memberSlots ↔ ∃ m ∈ l.members, m.slot = some i := by
  simp [Lot.memberSlots]

/-- R121: in a CLOSED lot whose member slots are not held, each of them is CLOSED and carries no marker. -/
theorem memberSlot_closed {s : State} (hs : LifeLaw s) {k : Fin 16} (hk : s.lots[k].state = .closed)
    (hh : ∀ i ∈ s.lots[k].memberSlots, s.slots[i].held = false) {i : Fin 64} (hi : i ∈ s.lots[k].memberSlots) :
    s.slots[i].state = .closed ∧ s.slots[i].busy = none := by
  obtain ⟨m, hm, hmi⟩ := mem_memberSlots.1 hi
  have hheld : s.slots[i].state ≠ .exporting ∧ s.slots[i].busy = none := by
    have := hh i hi
    unfold Slot.held at this
    simp only [Bool.or_eq_false_iff, beq_eq_false_iff_ne, Option.isSome_eq_false_iff, Option.isNone_iff_eq_none] at this
    exact this
  obtain hc | he := (hs.members k i m hm hmi).2.2 (by rw [hk]; exact nofun)
  exacts [⟨hc, hheld.2⟩, absurd he hheld.1]

/-- R134: after the retirements of an RTLT no member entry of the lot names a slot. -/
theorem members_none_of_retired {s : State} {k : Fin 16}
    (ht : LifeLaw (s.lots[k].memberSlots.foldl State.retire s)) :
    ∀ m ∈ (s.lots[k].memberSlots.foldl State.retire s).lots[k].members, m.slot = none := by
  intro m hm
  by_contra hne
  obtain ⟨i, hi⟩ := Option.ne_none_iff_exists'.1 hne
  have hmem := (foldl_retire_lot_members _ s k).2.2 m hm hne
  have hu := (ht.members k i m hm hi).1
  have hlist : i ∈ s.lots[k].memberSlots := mem_memberSlots.2 ⟨m, hmem, hi⟩
  rw [foldl_retire_get, if_pos hlist] at hu
  cases hu

theorem lifeLaw_retireLot {s : State} (hs : LifeLaw s) {k : Fin 16} {r : Option Retirement}
    (hk : s.lots[k].state = .closed) (hh : ∀ i ∈ s.lots[k].memberSlots, s.slots[i].held = false) :
    LifeLaw ((s.lots[k].memberSlots.foldl State.retire s).setLot k
      { (s.lots[k].memberSlots.foldl State.retire s).lots[k] with state := .retiring, retirement := r }) := by
  have ht := lifeLaw_foldl_retire s.lots[k].memberSlots ((List.nodup_finRange 64).filter _) hs
    fun i hi => memberSlot_closed hs hk hh hi
  have hnone := members_none_of_retired ht
  obtain ⟨hstate, _⟩ := foldl_retire_lot_members s.lots[k].memberSlots s k
  have hclosed := hstate.trans hk
  obtain ⟨hc, hh', hp, hb, hw⟩ := lifeLaw_iff.1 ht
  refine lifeLaw_of hc ?_ hp hb hw
  refine hh'.setLot (hh'.unnamed (by rw [hclosed]; exact nofun) hnone) hnone nofun fun _ => ?_
  exact ht.namedLots k (by rw [hclosed]; exact nofun)

end Sys2Proof.Machine
end

section
/-! PROOFS. Every step keeps the law of lives, and with it the laws of the records and of the maps. -/

namespace Sys2Proof.Machine

open Sys2Proof.Safety

/-! ### Reset and CLRA -/

/-- No lot, no wafer, no job, no export, nothing pinned and nothing bound: FREE and CLEARING slots only. -/
theorem lifeLaw_of_empty {s : State} (hc : ClearLaw s.clearList s.slots)
    (hslots : ∀ i : Fin 64, s.slots[i].inUse = false ∧ s.slots[i].identity = none ∧ s.slots[i].pendingOpen = none ∧
      s.slots[i].pinned = false ∧ s.slots[i].busy = none)
    (hlots : ∀ k : Fin 16, s.lots[k] = Lot.free) (hpin : s.pinCount = 0)
    (hbind : ∀ (n : Fin 12) (a : Fin 4), s.testers[n].bindings[a] = Binding.unbound) (hjobs : s.jobs = [])
    (htransfer : s.transfer = none) : LifeLaw s := by
  refine lifeLaw_of hc ?_ ?_ (.of_unbound hbind) ?_
  · constructor
    case held => intro i hi; exact absurd ((hslots i).1.symm.trans hi) nofun
    case unheld => exact fun i _ _ => (hslots i).2.1
    case identities => intro i j d hd; exact absurd ((hslots i).2.1.symm.trans hd) nofun
    case pendings => intro i o ho; exact absurd ((hslots i).2.2.1.symm.trans ho) nofun
    case members => intro k i m hm; rw [hlots k] at hm; cases hm
    case retiring => intro k hk; rw [hlots k] at hk; cases hk
    case freeLots => exact fun k _ => hlots k
    case namedLots => intro k hk; rw [hlots k] at hk; exact absurd rfl hk
  · refine ⟨⟨?_, by rw [hpin]; exact Nat.zero_le _⟩, fun i hi => absurd ((hslots i).2.2.2.1.symm.trans hi) nofun⟩
    rw [hpin]
    refine (List.countP_eq_zero.2 fun i _ => ?_).symm
    simpa using (hslots i).2.2.2.1
  · have hidle : ∀ i : Fin 64, s.slots[i].busy = none := fun i => (hslots i).2.2.2.2
    rw [hjobs, htransfer]
    refine ⟨Nat.zero_le _, List.nodup_nil, nofun, fun i => ?_, fun i => ⟨fun h => ?_, nofun⟩, nofun⟩
    · rw [hidle i]
      exact ⟨nofun, nofun⟩
    · exact absurd h (not_exporting_of_free (hslots i).1)

theorem lifeLaw_reset : LifeLaw State.reset := by
  have hslots : ∀ i : Fin 64, State.reset.slots[i] = Slot.empty .clearing [] := fun i => by simp [State.reset]
  refine lifeLaw_of_empty ⟨List.nodup_finRange 64, fun i => ?_⟩ (fun i => ?_) (fun k => ?_) rfl (fun n a => ?_) rfl rfl
  · rw [hslots]
    exact ⟨fun _ => rfl, fun _ => List.mem_finRange i⟩
  · rw [hslots]
    exact ⟨rfl, rfl, rfl, rfl, rfl⟩
  · simp [State.reset]
  · simp [State.reset, Tester.reset]

/-- R42: a slot after CLRA: FREE if it was FREE, and CLEARING otherwise. -/
theorem clearedSlot_state (sl : Slot) : (clearedSlot sl).state = if sl.state = .free then .free else .clearing := by
  unfold clearedSlot
  split <;> simp_all [Slot.empty]

/-- R42: a slot after CLRA has no identity, no pending open, no pin and no marker, when FREE and CLEARING slots had no
pin and no marker and FREE ones no identity and no pending open. -/
theorem clearedSlot_idle {sl : Slot} (hfree : sl.state = .free → sl.identity = none ∧ sl.pendingOpen = none)
    (hidle : sl.inUse = false → sl.pinned = false ∧ sl.busy = none) :
    (clearedSlot sl).identity = none ∧ (clearedSlot sl).pendingOpen = none ∧ (clearedSlot sl).pinned = false ∧
      (clearedSlot sl).busy = none := by
  unfold clearedSlot
  split
  next h =>
    obtain ⟨hid, hp⟩ := hfree h
    exact ⟨hid, hp, hidle (inUse_eq_false_iff.2 (.inl h))⟩
  next h => exact ⟨rfl, rfl, hidle (inUse_eq_false_iff.2 (.inr h))⟩
  all_goals exact ⟨rfl, rfl, rfl, rfl⟩

theorem lifeLaw_clearAll {s : State} (hs : LifeLaw s) (ds : List Done) : LifeLaw ((clearAll s).hand ds) := by
  have hslots : ∀ i : Fin 64, ((clearAll s).hand ds).slots[i] = clearedSlot s.slots[i] := fun i => by
    simp [clearAll, State.hand]
  have hused : ∀ i : Fin 64, i ∈ s.usedSlots ↔ s.slots[i].inUse = true := fun i => by simp [State.usedSlots]
  refine lifeLaw_of_empty ⟨?_, fun i => ?_⟩ (fun i => ?_) (fun k => ?_) rfl (fun n a => ?_) rfl rfl
  · refine List.nodup_append'.2 ⟨hs.clearOnce, (List.nodup_finRange 64).filter _, fun i hi hu => ?_⟩
    exact (inUse_iff.1 ((hused i).1 hu)).2 ((hs.clearExactly i).1 hi)
  · rw [hslots, clearedSlot_state]
    refine List.mem_append.trans ?_
    rw [hs.clearExactly, hused, inUse_iff]
    split
    next h => rw [h]; exact ⟨fun k => k.elim nofun fun k => absurd rfl k.1, nofun⟩
    next h => exact ⟨fun _ => rfl, fun _ => or_iff_not_imp_left.2 fun k => ⟨h, k⟩⟩
  · rw [hslots]
    refine ⟨inUse_eq_false_iff.2 ?_, clearedSlot_idle (fun h => ?_) fun h => ?_⟩
    · rw [clearedSlot_state]
      split
      exacts [.inl rfl, .inr rfl]
    · have hp := pendingOpen_none_of_free hs h
      exact ⟨hs.unheld i (inUse_eq_false_iff.2 (.inl h)) hp, hp⟩
    · refine ⟨?_, busy_none_of_free hs h⟩
      by_contra hpin
      exact absurd ((hs.pinned i (by simpa using hpin)).symm.trans h) nofun
  · simp [clearAll, State.hand]
  · simp [clearAll, State.hand]

/-! ### Every move -/

/-- States with the same records keep the same law of lives. -/
theorem lifeLaw_congr {s t : State} (h : SameRecords s t) (hs : LifeLaw s) : LifeLaw t := by
  obtain ⟨hc, hh, hp, hb, hw⟩ := lifeLaw_iff.1 hs
  refine lifeLaw_of ?_ ?_ ?_ ?_ ?_
  · rwa [h.clearList, h.slots]
  · rwa [h.slots, h.lots]
  · rwa [h.slots, h.pinCount]
  · rwa [h.testers, h.slots]
  · rwa [h.slots, h.jobs, h.transfer]

/-- The law of lives does not read the completion list. -/
theorem lifeLaw_hand {s : State} (hs : LifeLaw s) (ds : List Done) : LifeLaw (s.hand ds) := by
  obtain ⟨hc, hh, hp, hb, hw⟩ := lifeLaw_iff.1 hs
  exact lifeLaw_of hc hh hp hb hw

/-- R130: CLLT. -/
theorem lifeLaw_closeLot {s : State} (hs : LifeLaw s) {k : Fin 16} {d : Disposition} (hk : s.lots[k].state = .opened)
    (ha : ∀ m ∈ s.lots[k].members, s.memberActive m = false) :
    LifeLaw ((s.evaluateLot k).1.setLot k { (s.evaluateLot k).1.lots[k] with state := .closed, disposition := d }) := by
  have hquiet : ∀ m ∈ s.lots[k].members, m.opening = false ∧
      ∀ i, m.slot = some i → s.slots[i].state ≠ .opened ∧ s.slots[i].state ≠ .closing := fun m hm => by
    have := ha m hm
    unfold State.memberActive at this
    rw [Bool.or_eq_false_iff] at this
    refine ⟨this.1, fun i hi => ?_⟩
    have := this.2
    rw [hi] at this
    simpa using this
  obtain ⟨hc, hh, hp, hb, hw⟩ := lifeLaw_iff.1 hs
  refine lifeLaw_of hc ?_ hp hb hw
  simp only [State.setLot, State.evaluateLot_fst, Vector.set_set, get_set_self]
  exact (holderLaw_of hs).closeLot hk (fun m hm => (hquiet m hm).1) (fun m hm => (hquiet m hm).2) rfl rfl rfl

/-- A lot entry that is not OPEN and whose members hold no slot becomes FREE. -/
theorem lifeLaw_freeLot {s : State} (hs : LifeLaw s) {k : Fin 16} (hk : s.lots[k].state ≠ .opened)
    (hm : ∀ m ∈ s.lots[k].members, m.slot = none) : LifeLaw (s.setLot k Lot.free) := by
  obtain ⟨hc, hh, hp, hb, hw⟩ := lifeLaw_iff.1 hs
  refine lifeLaw_of hc ?_ hp hb hw
  exact (holderLaw_of hs).setLot ((holderLaw_of hs).unnamed hk hm) nofun (fun _ => rfl) fun h => absurd rfl h

/-- The records of lots change only where the law of lives does not read. -/
theorem lifeLaw_lots {s : State} (hs : LifeLaw s) {k : Fin 16} {l : Lot} (hl : SameLot s.lots[k] l) :
    LifeLaw (s.setLot k l) := by
  obtain ⟨hc, hh, hp, hb, hw⟩ := lifeLaw_iff.1 hs
  refine lifeLaw_of hc ?_ hp hb hw
  refine (holderLaw_of hs).lots_congr fun q => ?_
  simp only [State.setLot]
  rw [get_set]
  split
  exacts [by subst k; exact hl, .rfl]

theorem retiringLot_state {s : State} {i : Fin 64} {k : Fin 16} (h : s.retiringLot i = some k) :
    s.lots[k].state = .retiring := by
  have := List.find?_some h
  simp only [Bool.and_eq_true, beq_iff_eq] at this
  exact this.1

/-- R135: a slot leaves the retirement set that holds it. -/
theorem lifeLaw_leaveRetirement {s : State} (hs : LifeLaw s) (i : Fin 64) : LifeLaw (s.leaveRetirement i).1 := by
  obtain he | ⟨k, r, hk, _, ⟨_, he⟩ | ⟨_, he⟩⟩ := s.leaveRetirement_cases i <;> rw [he]
  · exact hs
  · have hstate := retiringLot_state hk
    exact lifeLaw_freeLot hs (by rw [hstate]; exact nofun) (hs.retiring k hstate)
  · have hstate := retiringLot_state hk
    exact lifeLaw_lots hs ⟨rfl, rfl, rfl, fun h => absurd (hstate.symm.trans h) nofun⟩

/-- One slot in use keeps its holder while its state or marks change. -/
theorem lifeLaw_slot {s t : State} (hs : LifeLaw s) {i : Fin 64} {sl : Slot} (hslots : t.slots = s.slots.set i sl)
    (hsame : SameHolder s.lots s.slots[i] sl) (hin : s.slots[i].inUse = true) (hclear : t.clearList = s.clearList)
    (hlots : ∀ k : Fin 16, SameLot s.lots[k] t.lots[k]) (hpin : t.pinCount + s.slots[i].pinned.toNat =
      s.pinCount + sl.pinned.toNat) (hcount : t.pinCount ≤ 16) (hbind : BindLaw t.testers t.slots)
    (hwork : WorkLaw t.slots t.jobs t.transfer) : LifeLaw t := by
  have hu : sl.inUse = true := hsame.inUse.trans hin
  refine lifeLaw_of ?_ ?_ ?_ hbind hwork <;> rw [hslots]
  · rw [hclear]
    refine (clearLaw_of hs).set i ⟨fun h => absurd h (inUse_iff.1 hu).2, fun h => absurd h (inUse_iff.1 hin).2⟩
  · exact ((holderLaw_of hs).set i hsame).lots_congr hlots
  · exact (pinLaw_of hs).set hpin hcount fun _ => hu

theorem inUse_of_state {sl : Slot} {x : SlotState} (h : sl.state = x) (h1 : x ≠ .free) (h2 : x ≠ .clearing) :
    sl.inUse = true := inUse_iff.2 (h ▸ ⟨h1, h2⟩)

theorem sameHolder_closedBy {lots : Vector Lot 16} {sl : Slot} (hu : sl.inUse = true) (l : LimitStates) (d : Word16)
    (q : Nat) : SameHolder lots sl ({ sl with limits := l }.closedBy d q) :=
  .of_inUse hu rfl rfl rfl rfl rfl fun _ _ _ _ => .inl rfl

theorem sameHolder_reopened {lots : Vector Lot 16} {sl : Slot} (hu : sl.inUse = true) (l : LimitStates)
    (ho : ∀ d, sl.identity = some d → lots[d.lot].state = .opened) :
    SameHolder lots sl { sl.reopened with limits := l } :=
  .of_inUse hu rfl rfl rfl rfl rfl fun d hd hne _ => absurd (ho d hd) hne

/-- R145: the end of a close sweep. -/
theorem lifeLaw_endSweep {s : State} (hs : LifeLaw s) {x : Job} {rest : List Job} (h : s.jobs = x :: rest)
    (hk : x.kind = .sweep) : LifeLaw (s.endSweep x rest) := by
  obtain ⟨_, _, hpins, hbind, hunits⟩ := lifeLaw_iff.1 hs
  have hwork : WorkLaw s.slots (x :: rest) s.transfer := h ▸ hunits
  have hstate := ((hwork.jobs x List.mem_cons_self).1 hk).1
  have hu := inUse_of_state hstate nofun nofun
  obtain ⟨l, d, _, _, hslots⟩ := endSweep_slots s x rest
  refine lifeLaw_slot hs hslots (sameHolder_closedBy hu l d _) hu ?_ (fun k => ?_) ?_ ?_ ?_ ?_
  · simp [State.endSweep, State.hand]
  · obtain ⟨y, v, hlots⟩ := endSweep_lots s x rest
    rw [hlots]
    exact setMember_sameLot (Member.core_withResults y v) (fun d hd => lot_not_free hs hu hd) k
  · have : (s.endSweep x rest).pinCount = s.pinCount := by simp [State.endSweep, State.hand]
    rw [this]
    rfl
  · have : (s.endSweep x rest).pinCount = s.pinCount := by simp [State.endSweep, State.hand]
    rw [this]
    exact hs.pins.2
  · have : (s.endSweep x rest).testers = s.testers := by simp [State.endSweep, State.hand]
    rw [hslots, this]
    exact hbind.set _ fun k => absurd (hstate.symm.trans k) nofun
  · have hj : (s.endSweep x rest).jobs = rest := by simp [State.endSweep, State.hand]
    have ht : (s.endSweep x rest).transfer = s.transfer := by simp [State.endSweep, State.hand]
    rw [hslots, hj, ht]
    exact hwork.pop rfl nofun

/-- R149: a reopen. -/
theorem lifeLaw_reopen {s : State} (hs : LifeLaw s) {c : Instr} {tag : Byte} {i : Fin 64}
    (hi : s.slots[i].state = .closed) (hb : s.slots[i].busy = none) (hl : s.lotOpen s.slots[i].identity = true) :
    LifeLaw (reopen c tag i s).state := by
  obtain ⟨_, _, hpins, hbind, hunits⟩ := lifeLaw_iff.1 hs
  have hu := inUse_of_state hi nofun nofun
  obtain ⟨l, _, hslots⟩ := reopen_slots c tag i s
  have hopen : ∀ d, s.slots[i].identity = some d → s.lots[d.lot].state = .opened := fun d hd => by
    rw [hd] at hl
    simpa [State.lotOpen] using hl
  refine lifeLaw_slot hs hslots (sameHolder_reopened hu l hopen) hu
    ?_ (fun k => ?_) ?_ ?_ ?_ ?_
  · simp [reopen]
  · rw [reopen_lots]
    exact setMember_sameLot (Member.core_withResults none .none) (fun d hd => lot_not_free hs hu hd) k
  · have : (reopen c tag i s).state.pinCount = s.pinCount := by simp [reopen]
    rw [this]
    rfl
  · have : (reopen c tag i s).state.pinCount = s.pinCount := by simp [reopen]
    rw [this]
    exact hs.pins.2
  · have : (reopen c tag i s).state.testers = s.testers := by simp [reopen]
    rw [hslots, this]
    exact hbind.set _ fun _ => rfl
  · have hj : (reopen c tag i s).state.jobs = s.jobs := by simp [reopen]
    have ht : (reopen c tag i s).state.transfer = s.transfer := by simp [reopen]
    rw [hslots, hj, ht]
    exact hunits.set_idle hb (by rw [hi]; exact nofun) hb nofun

/-- R153: a DIGEST job is queued. -/
theorem lifeLaw_digest {s : State} (hs : LifeLaw s) {i : Fin 64} {tag : Byte} {start count : Word16} {stop : Nat}
    (hi : s.slots[i].state = .opened ∨ s.slots[i].state = .closed ∨ s.slots[i].state = .exporting)
    (hb : s.slots[i].busy = none) (hj : s.jobs.length < 8) :
    LifeLaw { s.setSlot i { s.slots[i] with busy := some .digest } with
      jobs := s.jobs ++ [⟨.digest, i, tag, start, count, start.toNat, stop, 0xFFFF⟩] } := by
  obtain ⟨_, _, _, hbind, hunits⟩ := lifeLaw_iff.1 hs
  have hne : s.slots[i].state ≠ .exporting := fun he => by
    obtain ⟨x, hx, rfl⟩ := (hs.exporting i).1 he
    rw [hs.transfers x hx] at hb
    cases hb
  have hst : s.slots[i].state = .opened ∨ s.slots[i].state = .closed := by
    obtain h | h | h := hi
    exacts [.inl h, .inr h, absurd h hne]
  have hu : s.slots[i].inUse = true := hst.elim (inUse_of_state · nofun nofun) (inUse_of_state · nofun nofun)
  refine lifeLaw_slot hs (i := i) rfl (.of_state rfl rfl rfl rfl rfl) hu rfl (fun _ => .rfl) rfl hs.pins.2
    (hbind.set i id) ?_
  exact hunits.push (j := ⟨.digest, i, tag, start, count, start.toNat, stop, 0xFFFF⟩) hj hb hne nofun
    fun _ => ⟨hst, rfl⟩

/-- R64, R78: a change of cells with its evaluations. -/
theorem lifeLaw_change {s : State} (hs : LifeLaw s) {i : Fin 64} {w : Wafer} (hi : s.slots[i].state = .opened)
    (hw : CellSteps (s.recipeOfSlot i) (s.wafer i) w) : LifeLaw (s.settle i w).1 := by
  obtain ⟨_, _, _, hbind, hunits⟩ := lifeLaw_iff.1 hs
  have hu := inUse_of_state hi nofun nofun
  obtain ⟨l, _, hslots⟩ := settle_slots_marked s i w
  have hwafer : SameWafer s.slots[i] w.slot := hw.sameWafer
  obtain ⟨d, _, hd, _, _, hf, _⟩ := hs.held i hu
  obtain ⟨l', _, hlots⟩ := settle_lots (s := s) (i := i) (hwafer.identity.trans hd)
  refine lifeLaw_slot hs hslots (.of_state hwafer.state hwafer.identity hwafer.geometry hwafer.recipe
    hwafer.pendingOpen) hu (State.settle_clearList s i w) (fun k => ?_) ?_ ?_ ?_ ?_
  · rw [hlots, get_set]
    split
    next hk => subst hk; exact ⟨rfl, rfl, rfl, fun h => absurd h hf⟩
    next => exact .rfl
  · rw [State.settle_pinCount]
    exact congrArg (s.pinCount + Bool.toNat ·) hwafer.pinned.symm
  · rw [State.settle_pinCount]
    exact hs.pins.2
  · rw [hslots, State.settle_testers]
    exact hbind.set i fun k => hwafer.state.trans k
  · rw [hslots, State.settle_transfer]
    refine (hunits.set_same i (sl := { w.slot with limits := l }) hwafer.state hwafer.busy).jobs_congr ?_
    rw [settle_jobs, readAhead_jobs_core]

theorem Move.keeps_lifeLaw {s t : State} (h : Move s t) (hs : LifeLaw s) : LifeLaw t := by
  obtain ⟨hclear, hhold, hpins, hbind, hunits⟩ := lifeLaw_iff.1 hs
  have hsame : ∀ k : Fin 16, SameLot s.lots[k] s.lots[k] := fun k => .rfl
  cases h with
  | quiet h => exact lifeLaw_congr h hs
  | reset => exact lifeLaw_reset
  | done d rest h =>
    exact lifeLaw_of hclear hhold hpins hbind hunits
  | stage r policy advice w entries n =>
    exact lifeLaw_of hclear hhold hpins hbind hunits
  | commitRecipe r g entries hg hu =>
    exact lifeLaw_of hclear hhold hpins hbind hunits
  | openLot k ident r hk =>
    have hmem : s.lots[k].members = [] := by rw [hs.freeLots k hk]; rfl
    refine lifeLaw_of hclear ?_ hpins hbind hunits
    refine hhold.setLot (hhold.unnamed (by rw [hk]; exact nofun) (by rw [hmem]; exact nofun))
      nofun nofun fun _ => rfl
  | closeLot k d hk ha => exact lifeLaw_closeLot hs hk ha
  | freeLot k hk he =>
    refine lifeLaw_freeLot hs (by rw [hk]; exact nofun) fun m hm => ?_
    by_contra hne
    obtain ⟨i, hi⟩ := Option.ne_none_iff_exists'.1 hne
    have := mem_memberSlots.2 ⟨m, hm, hi⟩
    rw [he] at this
    cases this
  | retireLot k tag hk hh hc => exact lifeLaw_retireLot hs hk hh
  | releaseLot k hk =>
    exact lifeLaw_lots hs ⟨rfl, rfl, rfl, fun h => absurd (hk.symm.trans h) nofun⟩
  | openNow i o ho hi => exact lifeLaw_openNow hs ho hi
  | attach i o ho hi hp hc => exact lifeLaw_attach hs ho hi hp
  | endClearing i rest h => exact lifeLaw_endClearing hs h _
  | leaveRetirement i => exact lifeLaw_hand (lifeLaw_leaveRetirement hs i) _
  | retire i hi hb => exact lifeLaw_retire hs hi hb
  | pin i hi hp hn =>
    refine lifeLaw_slot hs (i := i) rfl (.of_state rfl rfl rfl rfl rfl) hi rfl hsame ?_ hn (hbind.set i id)
      (hunits.set_same i rfl rfl)
    rw [hp]
    rfl
  | unpin i hi hp =>
    have hpos : 1 ≤ s.pinCount := by
      have := hpins.pinned_le i
      rwa [hp] at this
    refine lifeLaw_slot hs (i := i) rfl (.of_state rfl rfl rfl rfl rfl) hi rfl hsame ?_ ?_ (hbind.set i id)
      (hunits.set_same i rfl rfl)
    · rw [hp]
      exact Nat.sub_add_cancel hpos
    · exact (Nat.sub_le _ _).trans hs.pins.2
  | releaseWafer i hi =>
    have hu := inUse_of_state hi nofun nofun
    refine lifeLaw_slot hs (i := i) (State.setMember_slots _ _ _) (.of_state rfl rfl rfl rfl rfl) hu
      (State.setMember_clearList _ _ _) (fun k => ?_) ?_ ?_ ?_ ?_
    · exact setMember_sameLot (s := s.setSlot i { s.slots[i] with disposition := .released })
        (f := fun m => { m with disposition := .released }) (fun _ => rfl) (fun d hd => lot_not_free hs hu hd) k
    · rw [State.setMember_pinCount]
      rfl
    · rw [State.setMember_pinCount]
      exact hs.pins.2
    · rw [State.setMember_testers, State.setMember_slots]
      exact hbind.set i id
    · rw [State.setMember_slots, State.setMember_jobs, State.setMember_transfer]
      exact hunits.set_same i rfl rfl
  | closeWafer i tag hi hb hj hc =>
    have hu := inUse_of_state hi nofun nofun
    refine lifeLaw_slot hs (i := i) rfl (.of_inUse hu rfl rfl rfl rfl rfl fun d _ _ hc => ?_) hu rfl hsame rfl hs.pins.2
      (hbind.unbindAll i _) ?_
    · rw [hi] at hc
      obtain hc | hc := hc <;> cases hc
    · exact hunits.push (j := sweepJob s i tag) hj hb (fun k => absurd (hi.symm.trans k) nofun)
        (fun _ => ⟨rfl, rfl⟩) nofun
  | endSweep x rest h hk => exact lifeLaw_endSweep hs h hk
  | reopen c tag i hi hb hl => exact lifeLaw_reopen hs hi hb hl
  | digest i tag start count stop hi hb hj hc => exact lifeLaw_digest hs hi hb hj
  | endDigest x rest h hk =>
    have hwork : WorkLaw s.slots (x :: rest) s.transfer := h ▸ hunits
    have hu := job_slot_inUse hs (h ▸ List.mem_cons_self : x ∈ s.jobs)
    refine lifeLaw_slot hs (i := x.slot) rfl (.of_state rfl rfl rfl rfl rfl) hu rfl hsame rfl hs.pins.2
      (hbind.set _ id) ?_
    exact hwork.pop rfl (hwork.job_slot List.mem_cons_self).1
  | startExport i tag ht hi hb hc =>
    have hu := inUse_of_state hi nofun nofun
    refine lifeLaw_slot hs (i := i) rfl (.of_inUse hu rfl rfl rfl rfl rfl fun _ _ _ _ => .inr rfl) hu rfl hsame rfl
      hs.pins.2 (hbind.set i fun k => absurd (hi.symm.trans k) nofun) ?_
    have hwork : WorkLaw s.slots s.jobs none := ht ▸ hunits
    exact hwork.start (x := ⟨i, tag, chunkCount s.slots[i].size, 0, 0xFFFF, false, .chunks⟩) hb rfl rfl
  | placeChunk x h hp =>
    have hwork : WorkLaw s.slots s.jobs (some x) := h ▸ hunits
    exact lifeLaw_of hclear hhold hpins hbind (hwork.transfer_congr rfl)
  | endExport x h hp =>
    have hwork : WorkLaw s.slots s.jobs (some x) := h ▸ hunits
    have hstate : s.slots[x.slot].state = .exporting := (hs.exporting _).2 ⟨x, h, rfl⟩
    have hu := inUse_of_state hstate nofun nofun
    refine lifeLaw_slot hs (i := x.slot) rfl (.of_inUse hu rfl rfl rfl rfl rfl fun _ _ _ _ => .inl rfl) hu rfl hsame rfl
      hs.pins.2 (hbind.set _ fun k => absurd (hstate.symm.trans k) nofun) ?_
    exact hwork.finish nofun rfl
  | stopExport x h =>
    have hwork : WorkLaw s.slots s.jobs (some x) := h ▸ hunits
    exact lifeLaw_of hclear hhold hpins hbind (hwork.transfer_congr rfl)
  | change i w hi hw => exact lifeLaw_change hs hi hw
  | rebind n a e h =>
    refine lifeLaw_of hclear hhold hpins ?_ hunits
    cases h with
    | unbind => exact hbind.rebind n a nofun fun _ => rfl
    | bound i e he hopen hr =>
      refine hbind.rebind n a (fun j hj => ?_) fun hnone => absurd (he.symm.trans hnone) nofun
      obtain rfl := Option.some.inj (he.symm.trans hj)
      exact hopen.elim id (hs.bound n a i)
  | writeSites n sites =>
    have htester : ∀ (q : Fin 12) (a : Fin 4),
        (s.setTester n { s.testers[n] with sites := sites }).testers[q].bindings[a] =
        s.testers[q].bindings[a] := fun q a => by
      rw [State.setTester, get_set]
      split
      exacts [by subst n; rfl, rfl]
    refine lifeLaw_of hclear hhold hpins ⟨fun q a i hi => ?_, fun q a hi => ?_⟩ hunits
    · rw [htester] at hi
      exact hs.bound q a i hi
    · rw [htester] at hi ⊢
      exact hs.unbound q a hi
  | clearAll hc => exact lifeLaw_clearAll hs _

/-- Settles O57: the laws of lives, of the records and of the maps go together through every move. -/
theorem everyStepKeepsTheRecords : Obligations.EveryStepKeepsTheRecords := by
  refine ⟨fun s t hr h => step_keeps Move.keeps_recordsLaw hr h, fun s t hl hr hm h => ?_⟩
  have hall : LifeLaw t ∧ RecordsLaw t ∧ MapLaw t :=
    step_keeps (P := fun s => LifeLaw s ∧ RecordsLaw s ∧ MapLaw s) (fun hmove ⟨hl, hr, hm⟩ =>
      ⟨hmove.keeps_lifeLaw hl, hmove.keeps_recordsLaw hr, hmove.keeps_mapLaw hl hr hm⟩) ⟨hl, hr, hm⟩ h
  exact hall.2.2

end Sys2Proof.Machine
end

section
/-! PROOFS. Every step keeps the law of lists: directory, member lists, run lengths, breach-seen marks, completions. -/

namespace Sys2Proof.Machine

open Sys2Proof.Safety

/-! ### The directory (R36) -/

/-- The directory holds the identity of every slot once and nothing else. -/
structure DirectoryLaw (directory : List DirectoryEntry) (slots : Vector Slot 64) : Prop where
  exactly : ∀ (k : Fin 16) (w : Nat) (i : Fin 64), ⟨k, w, i⟩ ∈ directory ↔ slots[i].identity = some ⟨k, w⟩
  once    : directory.Nodup

section Directory

variable {dir : List DirectoryEntry} {slots : Vector Slot 64}

theorem DirectoryLaw.set (h : DirectoryLaw dir slots) {i : Fin 64} {sl : Slot}
    (hid : sl.identity = slots[i].identity) : DirectoryLaw dir (slots.set i sl) := by
  refine ⟨fun k w j => ?_, h.once⟩
  rw [h.exactly, get_set]
  split
  next hij => rw [hid, get_congr slots hij]
  next => rfl

/-- A slot without an identity gets one, which enters the directory. -/
theorem DirectoryLaw.enter (h : DirectoryLaw dir slots) {i : Fin 64} {sl : Slot} {k : Fin 16} {w : Nat}
    (hold : slots[i].identity = none) (hid : sl.identity = some ⟨k, w⟩) :
    DirectoryLaw (dir ++ [⟨k, w, i⟩]) (slots.set i sl) := by
  have hout : ∀ (q : Fin 16) (v : Nat), ⟨q, v, i⟩ ∉ dir := fun q v hmem => by
    rw [h.exactly, hold] at hmem
    cases hmem
  refine ⟨fun q v j => ?_, ?_⟩
  · rw [List.mem_append, List.mem_singleton, h.exactly, get_set]
    split
    next hij =>
      subst hij
      rw [hold, hid]
      simp [eq_comm]
    next hij => simp [Ne.symm hij]
  · rw [List.nodup_append_comm, List.singleton_append, List.nodup_cons]
    exact ⟨hout k w, h.once⟩

/-- A slot loses its identity, and its entry leaves the directory. -/
theorem DirectoryLaw.leave (h : DirectoryLaw dir slots) (i : Fin 64) {sl : Slot} (hid : sl.identity = none) :
    DirectoryLaw (dir.filter fun e => e.slot != i) (slots.set i sl) := by
  refine ⟨fun k w j => ?_, h.once.filter _⟩
  rw [List.mem_filter, h.exactly, get_set]
  split
  next hij => simp [hid, hij]
  next hij => simp [Ne.symm hij]

theorem DirectoryLaw.of_none {slots : Vector Slot 64} (h : ∀ i : Fin 64, slots[i].identity = none) :
    DirectoryLaw [] slots := by
  refine ⟨fun k w i => ?_, List.nodup_nil⟩
  rw [h i]
  exact ⟨nofun, nofun⟩

end Directory

theorem retire_directory (s : State) (i : Fin 64) :
    (s.retire i).directory = s.directory.filter fun e => e.slot != i := by
  simp [State.retire_eq]

theorem directoryLaw_retire {s : State} (h : DirectoryLaw s.directory s.slots) (i : Fin 64) :
    DirectoryLaw (s.retire i).directory (s.retire i).slots := by
  rw [retire_slots, retire_directory]
  exact h.leave i rfl

theorem directoryLaw_foldl_retire (is : List (Fin 64)) {s : State} (h : DirectoryLaw s.directory s.slots) :
    DirectoryLaw (is.foldl State.retire s).directory (is.foldl State.retire s).slots := by
  induction is generalizing s with
  | nil => exact h
  | cons i rest ih => exact ih (directoryLaw_retire h i)

theorem Move.keeps_directoryLaw {s t : State} (h : Move s t) (hl : LifeLaw s) (hs : DirectoryLaw s.directory s.slots) :
    DirectoryLaw t.directory t.slots := by
  cases h with
  | quiet h => rwa [h.directory, h.slots]
  | reset => exact .of_none fun i => by simp [State.reset, Slot.empty]
  | openNow i o ho hi =>
    exact hs.enter (hl.unheld i (inUse_eq_false_iff.2 (.inl hi)) (pendingOpen_none_of_free hl hi)) rfl
  | attach i o ho hi hp hc =>
    exact hs.enter (hl.unheld i (inUse_eq_false_iff.2 (.inr ((hl.clearExactly i).1 hi))) hp) rfl
  | endClearing i rest h =>
    unfold State.endClearing
    dsimp only
    split
    next o ho => exact hs.set (hl.pendings i o ho).2.1.symm
    next => exact hs.set rfl
  | leaveRetirement i =>
    obtain he | ⟨k, r, _, _, ⟨_, he⟩ | ⟨_, he⟩⟩ := s.leaveRetirement_cases i <;> rw [he] <;> exact hs
  | retire i hi hb => exact directoryLaw_retire hs i
  | retireLot k tag hk hh hc => exact directoryLaw_foldl_retire _ hs
  | pin i => exact hs.set rfl
  | unpin i => exact hs.set rfl
  | releaseWafer i hi =>
    rw [State.setMember_slots, State.setMember_directory]
    exact hs.set rfl
  | closeWafer i tag hi hb hj hc => exact hs.set rfl
  | endSweep x rest h hk =>
    obtain ⟨l, d, _, _, hslots⟩ := endSweep_slots s x rest
    have hdir : (s.endSweep x rest).directory = s.directory := by simp [State.endSweep, State.hand]
    rw [hslots, hdir]
    exact hs.set rfl
  | reopen c tag i hi hb hlot =>
    obtain ⟨l, _, hslots⟩ := reopen_slots c tag i s
    have hdir : (Machine.reopen c tag i s).state.directory = s.directory := by simp [Machine.reopen]
    rw [hslots, hdir]
    exact hs.set rfl
  | digest i => exact hs.set rfl
  | endDigest x rest h hk => exact hs.set rfl
  | startExport i tag ht hi hb hc => exact hs.set rfl
  | endExport x h hp => exact hs.set rfl
  | change i w hi hw =>
    obtain ⟨l, _, hslots⟩ := settle_slots_marked s i w
    rw [hslots, State.settle_directory]
    exact hs.set hw.sameWafer.identity
  | clearAll hc =>
    refine .of_none fun i => ?_
    have hslot : ((Machine.clearAll s).hand (cancelled s)).slots[i] = clearedSlot s.slots[i] := by
      simp [Machine.clearAll, State.hand]
    rw [hslot]
    unfold clearedSlot
    split
    next h => exact hl.unheld i (inUse_eq_false_iff.2 (.inl h)) (pendingOpen_none_of_free hl h)
    all_goals rfl
  | _ => exact hs

/-! ### Member lists and the marks of lots (R107, R120, R127) -/

/-- At most 50 members, and an active breach has its mark. -/
def LotFits (l : Lot) : Prop := l.members.length ≤ 50 ∧ l.limits.marked

theorem lotFits_free : LotFits Lot.free := ⟨Nat.zero_le _, LimitStates.clear_marked⟩

theorem lotFits_set {lots : Vector Lot 16} (h : ∀ k : Fin 16, LotFits lots[k]) {q : Fin 16} {l : Lot} (hl : LotFits l)
    (k : Fin 16) : LotFits (lots.set q l)[k] := by
  rw [get_set]
  split
  exacts [hl, h k]

theorem lotFits_setLot {s : State} (h : ∀ k : Fin 16, LotFits s.lots[k]) (q : Fin 16) {l : Lot} (hl : LotFits l)
    (k : Fin 16) : LotFits (s.setLot q l).lots[k] := lotFits_set h hl k

theorem lotFits_setMember {s : State} (h : ∀ k : Fin 16, LotFits s.lots[k]) (id : Option Identity)
    (f : Member → Member) (k : Fin 16) : LotFits (s.setMember id f).lots[k] := by
  cases id with
  | none => exact h k
  | some d =>
    refine lotFits_setLot h d.lot ?_ k
    exact ⟨(List.length_map _).trans_le (h d.lot).1, (h d.lot).2⟩

theorem lotFits_retire {s : State} (h : ∀ k : Fin 16, LotFits s.lots[k]) (i : Fin 64) (k : Fin 16) :
    LotFits (s.retire i).lots[k] := by
  cases hid : s.slots[i].identity with
  | none =>
    rw [State.retire_lots_of_none hid]
    exact h k
  | some d =>
    simp only [Fin.getElem_fin, State.retire_lots hid]
    split
    exacts [⟨by simpa using (h k).1, (h k).2⟩, h k]

theorem lotFits_foldl_retire (is : List (Fin 64)) {s : State} (h : ∀ k : Fin 16, LotFits s.lots[k]) (k : Fin 16) :
    LotFits (is.foldl State.retire s).lots[k] := by
  induction is generalizing s with
  | nil => exact h k
  | cons i rest ih => exact ih fun k => lotFits_retire h i k

theorem Move.keeps_lotFits {s t : State} (h : Move s t) (hl : LifeLaw s) (hs : ∀ k : Fin 16, LotFits s.lots[k])
    (k : Fin 16) : LotFits t.lots[k] := by
  cases h with
  | quiet h => rw [h.lots]; exact hs k
  | reset =>
    have : State.reset.lots[k] = Lot.free := by simp [State.reset]
    rw [this]
    exact lotFits_free
  | openLot q ident r hq => exact lotFits_setLot hs q (l := Lot.fresh ident r) lotFits_free k
  | closeLot q d hq ha =>
    have heval : ∀ k : Fin 16, LotFits (s.evaluateLot q).1.lots[k] :=
      lotFits_setLot hs q ⟨(hs q).1, evaluate_marked (hs q).2⟩
    refine lotFits_setLot heval q ?_ k
    exact heval q
  | freeLot q hq he => exact lotFits_setLot hs q lotFits_free k
  | retireLot q tag hq hh hc => 
    have hfold := lotFits_foldl_retire s.lots[q].memberSlots hs
    refine lotFits_setLot hfold q ?_ k
    exact hfold q
  | releaseLot q hq =>
    refine lotFits_setLot hs q ?_ k
    exact hs q
  | openNow i o ho hi =>
    refine lotFits_setLot (s := (s.initSlot i o).enterDirectory o.lot o.wafer i) hs o.lot ?_ k
    exact ⟨(List.length_append ..).trans_le ho.space, (hs o.lot).2⟩
  | attach i o ho hi hp hc =>
    refine lotFits_setLot (s := (s.setSlot i _).enterDirectory o.lot o.wafer i) hs o.lot ?_ k
    exact ⟨(List.length_append ..).trans_le ho.space, (hs o.lot).2⟩
  | endClearing i rest h =>
    unfold State.endClearing
    dsimp only
    split
    exacts [lotFits_setMember (s := ({ s with clearList := rest } : State).initSlot i _) hs _ _ k, hs k]
  | leaveRetirement i =>
    obtain he | ⟨q, r, _, _, ⟨_, he⟩ | ⟨_, he⟩⟩ := s.leaveRetirement_cases i <;> rw [he]
    · exact hs k
    · exact lotFits_setLot hs q lotFits_free k
    · refine lotFits_setLot hs q ?_ k
      exact hs q
  | retire i hi hb => exact lotFits_retire hs i k
  | releaseWafer i hi => exact lotFits_setMember (s := s.setSlot i _) hs _ _ k
  | endSweep x rest h hk =>
    obtain ⟨y, v, hlots⟩ := endSweep_lots s x rest
    rw [hlots]
    exact lotFits_setMember hs _ _ k
  | reopen c tag i hi hb hlot =>
    rw [reopen_lots]
    exact lotFits_setMember hs _ _ k
  | change i w hi hw =>
    obtain ⟨d, _, hd, _⟩ := hl.held i (inUse_of_state hi nofun nofun)
    obtain ⟨l, hmark, hlots⟩ := settle_lots (s := s) (i := i) (hw.sameWafer.identity.trans hd)
    rw [hlots]
    refine lotFits_set hs ?_ k
    exact ⟨(hs d.lot).1, hmark (hs d.lot).2⟩
  | clearAll hc =>
    have : ((Machine.clearAll s).hand (cancelled s)).lots[k] = Lot.free := by simp [Machine.clearAll, State.hand]
    rw [this]
    exact lotFits_free
  | _ => exact hs k

/-! ### The marks of slots, and run lengths (R56, R107) -/

theorem SlotMove.marked {s : State} {j : Fin 64} {sl : Slot} (h : SlotMove s j sl) (hs : s.slots[j].limits.marked) :
    sl.limits.marked := by
  cases h with
  | reset => exact LimitStates.clear_marked
  | emptied => exact LimitStates.clear_marked
  | opened o => exact LimitStates.clear_marked
  | closed x rest l d _ _ _ _ hl => exact hl hs
  | reopened _ l hl => exact hl
  | changed w l _ hw hl =>
    refine hl ?_
    have hsame : w.slot.limits = s.slots[j].limits := hw.sameWafer.limits
    rwa [hsame]
  | _ => exact hs

/-- A slot that was OPEN and is OPEN names the recipe it named. -/
theorem SlotMove.recipe_of_opened {s : State} {j : Fin 64} {sl : Slot} (h : SlotMove s j sl) (hl : LifeLaw s)
    (hs : s.slots[j].state = .opened) (hsl : sl.state = .opened) : sl.recipe = s.slots[j].recipe := by
  have hnot : j ∉ s.clearList := fun hmem => absurd (((hl.clearExactly j).1 hmem).symm.trans hs) nofun
  cases h with
  | reset => cases hsl
  | emptied => cases hsl
  | opened o h =>
    obtain ⟨hfree, _⟩ | ⟨_, hmem⟩ := h
    exacts [absurd (hfree.symm.trans hs) nofun, absurd hmem hnot]
  | changed w l _ hw _ => exact hw.sameWafer.recipe
  | _ => rfl

/-- Every bound entry's run length is within the run limit of its slot's recipe (R56). -/
def RunsLaw (s : State) : Prop := ∀ (n : Fin 12) (a : Fin 4) (i : Fin 64), s.testers[n].bindings[a].slot = some i →
  s.testers[n].bindings[a].runLength ≤ (s.recipeOfSlot i).scalars.runLimit

/-- One alias entry after another is replaced. -/
theorem setBinding_binding (s : State) (q n : Fin 12) (b a : Fin 4) (e : Binding) :
    (s.setBinding q b e).testers[n].bindings[a] =
      if q = n ∧ b = a then e else s.testers[n].bindings[a] := by
  by_cases hq : q = n
  · subst hq
    have hget : (s.setBinding q b e).testers[q] = { s.testers[q] with bindings := s.testers[q].bindings.set b e } :=
      get_set_self _ _ _
    have : ((s.setBinding q b e).testers[q].bindings)[a] = (s.testers[q].bindings.set b e)[a] :=
      congrArg (fun r : Tester => r.bindings[a]) hget
    rw [this, get_set]
    simp
  · have hget : (s.setBinding q b e).testers[n] = s.testers[n] := get_set_ne _ _ hq
    rw [hget, if_neg fun k => hq k.1]

/-- Writing a site map leaves the alias entries. -/
theorem setSites_binding (s : State) (q n : Fin 12) (a : Fin 4) (sites : Vector SiteEntry 32) :
    (s.setTester q { s.testers[q] with sites := sites }).testers[n].bindings[a] = s.testers[n].bindings[a] := by
  by_cases hq : q = n
  · subst hq
    have hget := get_set_self s.testers q { s.testers[q] with sites := sites }
    exact (congrArg (fun r : Tester => r.bindings[a]) hget).trans rfl
  · exact congrArg (fun r : Tester => r.bindings[a]) (get_set_ne s.testers _ hq)

/-- What a move leaves of the alias entries: each stays or is rebound. -/
theorem Move.binding {s t : State} (h : Move s t) (n : Fin 12) (a : Fin 4) :
    t.testers[n].bindings[a] = s.testers[n].bindings[a] ∨
      Rebinds s s.testers[n].bindings[a] t.testers[n].bindings[a] := by
  cases h with
  | quiet h => rw [h.testers]; exact .inl rfl
  | reset =>
    have : State.reset.testers[n].bindings[a] = Binding.unbound := by simp [State.reset, Tester.reset]
    rw [this]
    exact .inr .unbind
  | retireLot k tag =>
    have : ∀ (is : List (Fin 64)) (s : State), (is.foldl State.retire s).testers = s.testers := by
      intro is
      induction is with
      | nil => exact fun _ => rfl
      | cons i rest ih => exact fun s => (ih (s.retire i)).trans (State.retire_testers s i)
    exact .inl (by rw [State.setLot_testers, this])
  | endClearing i rest h =>
    unfold State.endClearing
    dsimp only
    split
    · exact .inl (by simp [State.hand])
    · exact .inl rfl
  | leaveRetirement i =>
    obtain he | ⟨k, r, _, _, ⟨_, he⟩ | ⟨_, he⟩⟩ := s.leaveRetirement_cases i <;> rw [he] <;> exact .inl rfl
  | retire i => exact .inl (by rw [State.retire_testers])
  | releaseWafer i => exact .inl (by rw [State.setMember_testers]; rfl)
  | closeWafer i tag hi hb hj hc =>
    have hget := State.unbindAll_get s i n a
    split at hget
    · exact .inr (hget ▸ .unbind)
    · exact .inl hget
  | endSweep x rest => exact .inl (by simp [State.endSweep, State.hand])
  | reopen c tag i => exact .inl (by simp [Machine.reopen])
  | change i w => exact .inl (by rw [State.settle_testers])
  | rebind q b e h =>
    rw [setBinding_binding]
    split
    next hqb =>
      obtain ⟨rfl, rfl⟩ := hqb
      exact .inr h
    next => exact .inl rfl
  | writeSites q sites => exact .inl (setSites_binding s q n a sites)
  | clearAll hc =>
    have : ((Machine.clearAll s).hand (cancelled s)).testers[n].bindings[a] = Binding.unbound := by
      simp [Machine.clearAll, State.hand]
    rw [this]
    exact .inr .unbind
  | _ => exact .inl rfl

theorem Move.keeps_runsLaw {s t : State} (h : Move s t) (hl : LifeLaw s) (hr : RunsLaw s) : RunsLaw t := by
  by_cases hreset : t = State.reset
  · subst hreset
    intro n a i hi
    simp [State.reset, Tester.reset, Binding.unbound] at hi
  intro n a i hi
  have hopen : t.slots[i].state = .opened := (h.keeps_lifeLaw hl).bound n a i hi
  have hrecipe : s.slots[i].state = .opened → t.recipeOfSlot i = s.recipeOfSlot i := fun hs => by
    rw [← h.recipeAt hl hreset (inUse_of_state hs nofun nofun), State.recipeOfSlot,
      (h.slot i).recipe_of_opened hl hs hopen]
  obtain he | he := h.binding n a
  · rw [he] at hi ⊢
    rw [hrecipe (hl.bound n a i hi)]
    exact hr n a i hi
  · generalize t.testers[n].bindings[a] = e at hi he
    cases he with
    | unbind => cases hi
    | bound j e hj hs hlen =>
      obtain rfl := Option.some.inj (hj.symm.trans hi)
      obtain hzero | ⟨hold, hkeep⟩ := hlen
      · rw [hzero]
        exact Nat.zero_le _
      · rw [hrecipe (hl.bound n a j hold)]
        exact hkeep (hr n a j hold)

end Sys2Proof.Machine
end

section
/-! PROOFS. At most 80 completions wait or are still to come (R185), and with it the law of lists is kept. -/

namespace Sys2Proof.Machine

open Sys2Proof.Safety

/-! ### What is still to come -/

/-- How many slots have a pending open. -/
def pendingCount (slots : Vector Slot 64) : Nat :=
  (List.finRange 64).countP fun (i : Fin 64) => slots[i].pendingOpen.isSome

/-- How many lot entries are RETIRING. -/
def retiringCount (lots : Vector Lot 16) : Nat :=
  (List.finRange 16).countP fun (k : Fin 16) => lots[k].state == .retiring

theorem outstanding_eq (s : State) : outstanding s =
    pendingCount s.slots + s.jobs.length + s.transfer.toList.length + retiringCount s.lots := rfl

theorem pendingCount_set (slots : Vector Slot 64) (i : Fin 64) (sl : Slot) :
    pendingCount (slots.set i sl) + slots[i].pendingOpen.isSome.toNat =
      pendingCount slots + sl.pendingOpen.isSome.toNat := by
  have := countP_update (List.nodup_finRange 64) (List.mem_finRange i)
    (fun (j : Fin 64) => slots[j].pendingOpen.isSome) (fun (j : Fin 64) => (slots.set i sl)[j].pendingOpen.isSome)
    fun j _ hj => by rw [get_set_ne slots sl hj.symm]
  rw [get_set_self] at this
  exact this

theorem pendingCount_set_same (slots : Vector Slot 64) {i : Fin 64} {sl : Slot}
    (h : sl.pendingOpen = slots[i].pendingOpen) : pendingCount (slots.set i sl) = pendingCount slots := by
  have := pendingCount_set slots i sl
  rw [h] at this
  omega

theorem pendingCount_set_same_le (slots : Vector Slot 64) {i : Fin 64} {sl : Slot}
    (h : sl.pendingOpen = slots[i].pendingOpen) : pendingCount (slots.set i sl) ≤ pendingCount slots :=
  (pendingCount_set_same slots h).le

theorem pendingCount_set_le (slots : Vector Slot 64) {i : Fin 64} {sl : Slot} (h : sl.pendingOpen = none) :
    pendingCount (slots.set i sl) ≤ pendingCount slots := by
  have := pendingCount_set slots i sl
  rw [h] at this
  simp only [Option.isSome_none, Bool.toNat_false] at this
  omega

theorem retiringCount_set (lots : Vector Lot 16) (k : Fin 16) (l : Lot) :
    retiringCount (lots.set k l) + (lots[k].state == .retiring).toNat =
      retiringCount lots + (l.state == .retiring).toNat := by
  have := countP_update (List.nodup_finRange 16) (List.mem_finRange k)
    (fun (j : Fin 16) => lots[j].state == .retiring) (fun (j : Fin 16) => (lots.set k l)[j].state == .retiring)
    fun j _ hj => by rw [get_set_ne lots l hj.symm]
  rw [get_set_self] at this
  exact this

theorem retiringCount_congr {lots lots' : Vector Lot 16} (h : ∀ k : Fin 16, lots'[k].state = lots[k].state) :
    retiringCount lots' = retiringCount lots :=
  List.countP_congr fun k _ => by rw [h k]

theorem retiringCount_set_same (lots : Vector Lot 16) {k : Fin 16} {l : Lot} (h : l.state = lots[k].state) :
    retiringCount (lots.set k l) = retiringCount lots := by
  have := retiringCount_set lots k l
  rw [h] at this
  omega

theorem retiringCount_set_same_le (lots : Vector Lot 16) {k : Fin 16} {l : Lot} (h : l.state = lots[k].state) :
    retiringCount (lots.set k l) ≤ retiringCount lots := (retiringCount_set_same lots h).le

theorem retiringCount_set_le (lots : Vector Lot 16) {k : Fin 16} {l : Lot} (h : l.state ≠ .retiring) :
    retiringCount (lots.set k l) ≤ retiringCount lots := by
  have := retiringCount_set lots k l
  have hl : (l.state == .retiring) = false := by simpa using h
  rw [hl] at this
  simp only [Bool.toNat_false] at this
  omega

/-- R185: every slot is awaited by at most one completion, so at most 64 of slots and 16 of lots are still to come. -/
theorem outstanding_le {s : State} (hs : LifeLaw s) : outstanding s ≤ 80 := by
  have hw := workLaw_of hs
  have hpend : ((List.finRange 64).filter fun (i : Fin 64) => s.slots[i].pendingOpen.isSome).Nodup :=
    (List.nodup_finRange 64).filter _
  have hclearing : ∀ i ∈ (List.finRange 64).filter fun (i : Fin 64) => s.slots[i].pendingOpen.isSome,
      s.slots[i].inUse = false := fun i hi => by
    obtain ⟨o, ho⟩ := Option.isSome_iff_exists.1 (List.mem_filter.1 hi).2
    exact inUse_eq_false_iff.2 (.inr (hs.pendings i o ho).1)
  have hjobs : ∀ i ∈ s.jobs.map (·.slot), s.slots[i].inUse = true ∧ s.slots[i].state ≠ .exporting := fun i hi => by
    obtain ⟨j, hj, rfl⟩ := List.mem_map.1 hi
    exact ⟨job_slot_inUse hs hj, (hw.job_slot hj).1⟩
  have htransfer : ∀ i ∈ s.transfer.toList.map (·.slot), s.slots[i].state = .exporting := fun i hi => by
    obtain ⟨x, hx, rfl⟩ := List.mem_map.1 hi
    exact (hs.exporting _).2 ⟨x, Option.mem_toList.1 hx, rfl⟩
  have hnodup : (s.transfer.toList.map (·.slot)).Nodup := by
    cases s.transfer <;> simp
  have hall := hpend.append ((hs.jobSlots.append hnodup) fun i h1 h2 => (hjobs i h1).2 (htransfer i h2))
    fun i h1 h2 => by
      obtain h2 | h2 := List.mem_append.1 h2
      · exact absurd ((hclearing i h1).symm.trans (hjobs i h2).1) nofun
      · exact not_exporting_of_free (hclearing i h1) (htransfer i h2)
  have hslots := hall.length_le_card
  have hlots : retiringCount s.lots ≤ 16 := List.countP_le_length.trans (by simp)
  simp only [List.length_append, List.length_map, Fintype.card_fin, ← List.countP_eq_length_filter] at hslots
  rw [outstanding_eq]
  unfold pendingCount
  omega

/-- R190, R191: a CLRA hands no more completions than were still to come. -/
theorem cancelled_length_le (s : State) : (cancelled s).length ≤ outstanding s := by
  have hopens : (cancelOpens s).length ≤ pendingCount s.slots := by
    unfold cancelOpens
    rw [List.length_filterMap_eq_countP]
    refine List.countP_mono_left fun i _ h => ?_
    split at h
    · simpa using h
    · cases h
  have hretirements : (cancelRetirements s).length ≤ retiringCount s.lots := by
    unfold cancelRetirements
    rw [List.length_filterMap_eq_countP]
    refine List.countP_mono_left fun k _ h => ?_
    split at h
    next hk => simpa using hk
    next => cases h
  have htransfer : (s.transfer.map cancelTransfer).toList.length = s.transfer.toList.length := by
    cases s.transfer <;> rfl
  rw [outstanding_eq]
  simp only [cancelled, List.length_append, List.length_map, htransfer]
  omega

/-! ### Completions through a move -/

/-- How many completions wait or are still to come. -/
def due (s : State) : Nat := s.completions.length + outstanding s

theorem due_bound {s t : State} (hs : due s ≤ 80) (hc : t.completions.length ≤ s.completions.length)
    (hp : pendingCount t.slots ≤ pendingCount s.slots) (hj : t.jobs.length ≤ s.jobs.length)
    (hx : t.transfer.toList.length ≤ s.transfer.toList.length) (hr : retiringCount t.lots ≤ retiringCount s.lots) :
    due t ≤ 80 := by
  simp only [due, outstanding_eq] at hs ⊢
  omega

theorem retiringCount_setMember (s : State) (id : Option Identity) (f : Member → Member) :
    retiringCount (s.setMember id f).lots = retiringCount s.lots := by
  cases id with
  | none => rfl
  | some d => exact retiringCount_set_same s.lots rfl

theorem retiringCount_retire (s : State) (i : Fin 64) : retiringCount (s.retire i).lots = retiringCount s.lots :=
  retiringCount_congr fun k => (retire_lot_members s i k).1

/-- A move that starts no work leaves no more completions to come than before: those it hands are no longer to come. -/
theorem Move.due_le {s t : State} (h : Move s t) (hl : LifeLaw s) (hs : due s ≤ 80) : due t ≤ 80 := by
  have hempty : ∀ {u : State}, LifeLaw u → u.completions = [] → due u ≤ 80 := fun hu hc => by
    simp only [due, hc, List.length_nil, Nat.zero_add]
    exact outstanding_le hu
  have ht := h.keeps_lifeLaw hl
  cases h with
  | quiet h =>
    refine due_bound hs ?_ ?_ ?_ ?_ ?_
    all_goals simp only [h.completions, h.slots, h.jobs, h.transfer, h.lots, le_refl]
  | reset => exact hempty ht rfl
  | done d rest h =>
    refine due_bound hs ?_ le_rfl le_rfl le_rfl le_rfl
    rw [h]
    exact Nat.le_succ _
  | openLot k ident r hk =>
    exact due_bound hs le_rfl le_rfl le_rfl le_rfl (retiringCount_set_le s.lots (k := k) (l := Lot.fresh ident r) nofun)
  | closeLot k d hk ha =>
    refine due_bound hs le_rfl le_rfl le_rfl le_rfl ?_
    have heval : retiringCount (s.evaluateLot k).1.lots = retiringCount s.lots := retiringCount_set_same s.lots rfl
    rw [← heval]
    refine retiringCount_set_le _ ?_
    exact nofun
  | freeLot k hk he =>
    exact due_bound hs le_rfl le_rfl le_rfl le_rfl (retiringCount_set_le s.lots (k := k) (l := Lot.free) nofun)
  | retireLot k tag hk hh hc =>
    refine hempty ht ?_
    have : ∀ (is : List (Fin 64)) (s : State), (is.foldl State.retire s).completions = s.completions := by
      intro is
      induction is with
      | nil => exact fun _ => rfl
      | cons i rest ih => exact fun s => (ih (s.retire i)).trans (State.retire_completions s i)
    rw [State.setLot_completions, this, hc]
  | releaseLot k hk => exact due_bound hs le_rfl le_rfl le_rfl le_rfl (retiringCount_set_same_le s.lots rfl)
  | openNow i o ho hi =>
    exact due_bound hs le_rfl (pendingCount_set_le _ rfl) le_rfl le_rfl (retiringCount_set_same_le s.lots rfl)
  | attach i o ho hi hp hc => exact hempty ht hc
  | endClearing i rest h =>
    unfold State.endClearing
    dsimp only
    split
    next o ho =>
      refine le_trans ?_ hs
      have hpend := pendingCount_set s.slots i (openedSlot { s with clearList := rest } o)
      have hret := retiringCount_setMember (({ s with clearList := rest } : State).initSlot i o)
        (some ⟨o.lot, o.wafer⟩) fun m => { m with slot := some i, opening := false }
      have hlots : (({ s with clearList := rest } : State).initSlot i o).lots = s.lots := rfl
      rw [ho] at hpend
      rw [hlots] at hret
      simp only [due, outstanding_eq, State.hand_completions, List.length_append, List.length_singleton]
      simp only [State.hand, State.setMember_slots, State.setMember_jobs, State.setMember_transfer,
        State.setMember_completions, hret]
      simp only [State.initSlot_eq, State.setSlot]
      have : (openedSlot { s with clearList := rest } o).pendingOpen = none := rfl
      simp only [this, Option.isSome_some, Option.isSome_none, Bool.toNat_true, Bool.toNat_false] at hpend
      omega
    next hp => exact due_bound hs (by simp [State.hand]) (pendingCount_set_same_le s.slots rfl) le_rfl le_rfl le_rfl
  | leaveRetirement i =>
    obtain he | ⟨k, r, hk, _, ⟨_, he⟩ | ⟨_, he⟩⟩ := s.leaveRetirement_cases i <;> rw [he]
    · exact due_bound hs (by simp [State.hand]) le_rfl le_rfl le_rfl le_rfl
    · refine le_trans ?_ hs
      have hcount := retiringCount_set s.lots k Lot.free
      rw [retiringLot_state hk] at hcount
      simp only [due, outstanding_eq, State.hand, State.setLot, List.length_append, List.length_singleton]
      have : (Lot.free.state == LotState.retiring).toNat = 0 := rfl
      simp only [this, beq_self_eq_true, Bool.toNat_true] at hcount
      omega
    · exact due_bound hs (by simp [State.hand]) le_rfl le_rfl le_rfl (retiringCount_set_same_le s.lots rfl)
  | retire i hi hb =>
    refine due_bound hs ?_ ?_ ?_ ?_ (retiringCount_retire s i).le
    · rw [State.retire_completions]
    · rw [retire_slots]
      exact pendingCount_set_le _ rfl
    · rw [State.retire_jobs]
    · rw [State.retire_transfer]
  | pin i => exact due_bound hs le_rfl (pendingCount_set_same_le s.slots rfl) le_rfl le_rfl le_rfl
  | unpin i => exact due_bound hs le_rfl (pendingCount_set_same_le s.slots rfl) le_rfl le_rfl le_rfl
  | releaseWafer i hi =>
    refine due_bound hs ?_ ?_ ?_ ?_ (retiringCount_setMember _ _ _).le
    · rw [State.setMember_completions]; rfl
    · rw [State.setMember_slots]
      exact pendingCount_set_same_le s.slots rfl
    · rw [State.setMember_jobs]; rfl
    · rw [State.setMember_transfer]; rfl
  | closeWafer i tag hi hb hj hc => exact hempty ht hc
  | endSweep x rest h hk =>
    obtain ⟨l, d, _, _, hslots⟩ := endSweep_slots s x rest
    obtain ⟨y, v, hlots⟩ := endSweep_lots s x rest
    have hjobs : (s.endSweep x rest).jobs = rest := by simp [State.endSweep, State.hand]
    have htransfer : (s.endSweep x rest).transfer = s.transfer := by simp [State.endSweep, State.hand]
    have hcompl : (s.endSweep x rest).completions.length = s.completions.length + 1 := by
      simp [State.endSweep, State.hand]
    refine le_trans ?_ hs
    have hpend : pendingCount (s.endSweep x rest).slots = pendingCount s.slots := by
      rw [hslots]
      exact pendingCount_set_same _ rfl
    have hret : retiringCount (s.endSweep x rest).lots = retiringCount s.lots := by
      rw [hlots]
      exact retiringCount_setMember _ _ _
    simp only [due, outstanding_eq, hpend, hret, hjobs, htransfer, hcompl, h, List.length_cons]
    omega
  | reopen c tag i hi hb hlot =>
    obtain ⟨l, _, hslots⟩ := reopen_slots c tag i s
    refine due_bound hs ?_ ?_ ?_ ?_ ?_
    · simp [Machine.reopen]
    · rw [hslots]
      exact pendingCount_set_same_le s.slots rfl
    · simp [Machine.reopen]
    · simp [Machine.reopen]
    · rw [reopen_lots]
      exact (retiringCount_setMember _ _ _).le
  | digest i tag start count stop hi hb hj hc => exact hempty ht hc
  | endDigest x rest h hk =>
    refine le_trans ?_ hs
    have hpend := pendingCount_set_same s.slots (i := x.slot) (sl := { s.slots[x.slot] with busy := none }) rfl
    simp only [due, outstanding_eq, State.endDigest, State.hand, State.setSlot, hpend, h, List.length_append,
      List.length_cons, List.length_nil]
    omega
  | startExport i tag htr hi hb hc => exact hempty ht hc
  | placeChunk x h hp =>
    refine due_bound hs le_rfl le_rfl le_rfl ?_ le_rfl
    rw [h]
    exact le_rfl
  | endExport x h hp =>
    refine le_trans ?_ hs
    have hpend := pendingCount_set_same s.slots (i := x.slot)
      (sl := { s.slots[x.slot] with state := .closed, busy := none, exported := !x.stop }) rfl
    simp only [due, outstanding_eq, State.endExport, State.hand, State.setSlot, State.place, State.setLink, hpend, h,
      List.length_append, List.length_cons, List.length_nil, Option.toList]
    omega
  | stopExport x h =>
    refine due_bound hs le_rfl le_rfl le_rfl ?_ le_rfl
    rw [h]
    exact le_rfl
  | change i w hi hw =>
    have hwafer : SameWafer s.slots[i] w.slot := hw.sameWafer
    obtain ⟨l, _, hslots⟩ := settle_slots_marked s i w
    obtain ⟨d, _, hd, _⟩ := hl.held i (inUse_of_state hi nofun nofun)
    obtain ⟨l', _, hlots⟩ := settle_lots (s := s) (i := i) (hwafer.identity.trans hd)
    refine due_bound hs ?_ ?_ ?_ ?_ ?_
    · rw [State.settle_completions]
    · rw [hslots]
      exact pendingCount_set_same_le s.slots hwafer.pendingOpen
    · have := congrArg List.length (readAhead_jobs_core s i)
      rw [List.length_map, List.length_map] at this
      rw [settle_jobs, this]
    · rw [State.settle_transfer]
    · rw [hlots]
      exact retiringCount_set_same_le s.lots rfl
  | clearAll hc =>
    have hcount := (cancelled_length_le s).trans (outstanding_le hl)
    have hpend : pendingCount ((Machine.clearAll s).hand (cancelled s)).slots = 0 :=
      List.countP_eq_zero.2 fun i _ => by
        have : ((Machine.clearAll s).hand (cancelled s)).slots[i] = clearedSlot s.slots[i] := by
          simp [Machine.clearAll, State.hand]
        rw [this, (clearedSlot_idle (fun h => ⟨hl.unheld i (inUse_eq_false_iff.2 (.inl h))
          (pendingOpen_none_of_free hl h), pendingOpen_none_of_free hl h⟩) fun h => ?_).2.1]
        · exact nofun
        · refine ⟨?_, busy_none_of_free hl h⟩
          by_contra hpin
          exact absurd ((hl.pinned i (by simpa using hpin)).symm.trans h) nofun
    have hret : retiringCount ((Machine.clearAll s).hand (cancelled s)).lots = 0 :=
      List.countP_eq_zero.2 fun k _ => by simp [Machine.clearAll, State.hand, Lot.free]
    have hcompl : ((Machine.clearAll s).hand (cancelled s)).completions = cancelled s := by
      simp [Machine.clearAll, hc]
    rw [due, outstanding_eq, hpend, hret, hcompl]
    simpa [Machine.clearAll, State.hand] using hcount
  | _ => exact due_bound hs le_rfl le_rfl le_rfl le_rfl le_rfl

/-! ### The law of lists -/

theorem Move.keeps_listsLaw {s t : State} (h : Move s t) (hl : LifeLaw s) (hs : ListsLaw s) : ListsLaw t := by
  obtain ⟨hdir, honce⟩ := h.keeps_directoryLaw hl ⟨hs.directory, hs.directoryOnce⟩
  have hlots := h.keeps_lotFits hl fun k => ⟨hs.members k, hs.lotMarks k⟩
  exact ⟨hdir, honce, fun k => (hlots k).1, h.keeps_runsLaw hl hs.runs, fun i => (h.slot i).marked (hs.slotMarks i),
    fun k => (hlots k).2, h.due_le hl hs.completions⟩

/-- Settles O58: the law of lives goes through every move, and the law of lists with it. -/
theorem everyStepKeepsTheLives : Obligations.EveryStepKeepsTheLives := by
  refine ⟨fun s t hl h => step_keeps Move.keeps_lifeLaw hl h, fun s t hl hs h => ?_⟩
  have hall : LifeLaw t ∧ ListsLaw t :=
    step_keeps (P := fun s => LifeLaw s ∧ ListsLaw s) (fun hmove ⟨hl, hs⟩ =>
      ⟨hmove.keeps_lifeLaw hl, hmove.keeps_listsLaw hl hs⟩) ⟨hl, hs⟩ h
  exact hall.2

end Sys2Proof.Machine
end

section
/-! PROOFS. Every step keeps the law of tallies: a slot's figures count its cells, and a lot's are its carry and the sum
over its member slots (R20, R121). -/

namespace Sys2Proof.Machine

open Sys2Proof.Safety

/-! ### Figures -/

/-- A figure of tallies, with the bins of the tested cells it counts under a recipe. -/
inductive Figure (r : Recipe) : (Tallies → Nat) → (Fin 64 → Bool) → Prop where
  | tested : Figure r Tallies.tested fun _ => true
  | passed : Figure r Tallies.passed r.passes
  | count (b : Fin 64) : Figure r (fun t => t.counts[b]) fun c => c == b

section Figures

variable {r : Recipe} {f : Tallies → Nat} {p : Fin 64 → Bool}

theorem Figure.zero (h : Figure r f p) : f Tallies.zero = 0 := by
  cases h with
  | count b => simp [Tallies.zero]
  | _ => rfl

theorem Figure.plus (h : Figure r f p) (a b : Tallies) : f (a.plus b) = f a + f b := by
  cases h with
  | count c => simp [Tallies.plus]
  | _ => rfl

theorem Figure.add (h : Figure r f p) (b : Fin 64) (t : Tallies) : f (t.add r b) = f t + (p b).toNat := by
  cases h with
  | count c =>
    simp only [Tallies.add]
    rw [get_set]
    split
    next hbc => simp [hbc]
    next hbc => simp [beq_eq_false_iff_ne.2 hbc]
  | _ => rfl

theorem Figure.remove (h : Figure r f p) (b : Fin 64) (t : Tallies) : f (t.remove r b) = f t - (p b).toNat := by
  cases h with
  | count c =>
    simp only [Tallies.remove]
    rw [get_set]
    split
    next hbc => simp [hbc]
    next hbc => simp [beq_eq_false_iff_ne.2 hbc]
  | _ => rfl

theorem Figure.move (h : Figure r f p) {b k : Fin 64} (hbk : k ≠ b) {t : Tallies} (hb : (p b).toNat ≤ f t) :
    f (t.move r b k) + (p b).toNat = f t + (p k).toNat := by
  cases h with
  | tested => rfl
  | passed =>
    simp only [Tallies.move] at hb ⊢
    omega
  | count c =>
    simp only [Tallies.move] at hb ⊢
    rw [get_set, get_set_ne _ _ hbk.symm]
    split
    next hkc =>
      subst hkc
      simp [hbk.symm]
    next hkc =>
      rw [get_set]
      split
      next hbc =>
        subst hbc
        simp only [beq_self_eq_true, Bool.toNat_true] at hb ⊢
        simp only [beq_eq_false_iff_ne.2 hkc, Bool.toNat_false]
        omega
      next hbc => simp [beq_eq_false_iff_ne.2 hbc, beq_eq_false_iff_ne.2 hkc]

end Figures

/-! ### The cells of a map -/

/-- The cells a figure counts. -/
def counted (p : Fin 64 → Bool) (c : Cell) : Bool := isTested c && p c.bin

/-- An excluded cell. -/
def isExcluded (c : Cell) : Bool := c.status == .excluded

theorem slotTallyLaw_iff {r : Recipe} {sl : Slot} : SlotTallyLaw r sl ↔
    (∀ f p, Figure r f p → f sl.tallies = cellCount sl (counted p)) ∧
      sl.mapSize + cellCount sl isExcluded = sl.size := by
  have htrue : (counted fun _ => true) = isTested := by
    funext c
    simp [counted]
  refine ⟨fun h => ⟨fun f p hf => ?_, h.mapSize⟩, fun ⟨hf, hm⟩ => ⟨?_, hf _ _ .passed, fun b => hf _ _ (.count b), hm⟩⟩
  · cases hf with
    | tested => rw [htrue]; exact h.tested
    | passed => exact h.passed
    | count b => exact h.counts b
  · have := hf _ _ .tested
    rwa [htrue] at this

/-- A count depends on the size of the map and what is counted of each cell. -/
theorem cellCount_congr {a b : Slot} (hs : b.size = a.size) {p : Cell → Bool} (h : ∀ k, p (b.cell k) = p (a.cell k)) :
    cellCount b p = cellCount a p := by
  unfold cellCount
  rw [hs]
  exact List.countP_congr fun k _ => by rw [h k]

theorem size_congr {a b : Slot} (hg : b.geometry = a.geometry) : b.size = a.size := by
  simp only [Slot.size, Slot.rows, Slot.cols, hg]

/-- The law of tallies goes with the tallies, the map size, the geometry and what is counted of each cell. -/
theorem slotTallyLaw_congr {r : Recipe} {a b : Slot} (h : SlotTallyLaw r a) (ht : b.tallies = a.tallies)
    (hm : b.mapSize = a.mapSize) (hg : b.geometry = a.geometry)
    (hc : ∀ k, isTested (b.cell k) = isTested (a.cell k) ∧ (b.cell k).bin = (a.cell k).bin ∧
      isExcluded (b.cell k) = isExcluded (a.cell k)) : SlotTallyLaw r b := by
  obtain ⟨hf, hmap⟩ := slotTallyLaw_iff.1 h
  have hs := size_congr hg
  refine slotTallyLaw_iff.2 ⟨fun f p hfp => ?_, ?_⟩
  · rw [ht, hf f p hfp]
    exact (cellCount_congr hs fun k => by rw [counted, counted, (hc k).1, (hc k).2.1]).symm
  · rw [hm, hs, cellCount_congr hs fun k => (hc k).2.2]
    exact hmap

/-- A slot with the same map keeps the law of tallies. -/
theorem slotTallyLaw_same {r : Recipe} {a b : Slot} (h : SlotTallyLaw r a) (ht : b.tallies = a.tallies)
    (hm : b.mapSize = a.mapSize) (hg : b.geometry = a.geometry) (hc : b.cells = a.cells) : SlotTallyLaw r b := by
  refine slotTallyLaw_congr h ht hm hg fun k => ?_
  rw [Slot.cell, hc]
  exact ⟨rfl, rfl, rfl⟩

/-- One written cell changes a count by that cell. -/
theorem cellCount_write {a b : Slot} {k : Nat} {c : Cell} (hg : b.geometry = a.geometry)
    (hc : b.cells = a.cells.write k c) (hk : k < a.size) (hwf : a.cells.wf = true) (p : Cell → Bool) :
    cellCount b p + (p (a.cell k)).toNat = cellCount a p + (p c).toNat := by
  have hcell : ∀ j, b.cell j = if j = k then c else a.cell j := fun j => by
    rw [Slot.cell, hc, Memory.read_write hwf, Slot.cell]
  have := countP_update List.nodup_range (List.mem_range.2 hk) (fun j => p (a.cell j)) (fun j => p (b.cell j))
    fun j _ hj => by rw [hcell, if_neg hj]
  rw [hcell, if_pos rfl] at this
  rw [cellCount, size_congr hg]
  exact this

theorem cellCount_pos {sl : Slot} {k : Nat} (hk : k < sl.size) (p : Cell → Bool) :
    (p (sl.cell k)).toNat ≤ cellCount sl p := by
  cases hp : p (sl.cell k) with
  | false => exact Nat.zero_le _
  | true => exact List.countP_pos_iff.2 ⟨k, List.mem_range.2 hk, hp⟩

/-! ### Cell changes -/

/-- What a change of cells keeps: the tallies of the workspace's slot are those of its cells, and the totals of the lot
are those tallies and the figures `base` of the other slots and the carry. -/
structure Tallied (r : Recipe) (base : (Tallies → Nat) → Nat) (w : Wafer) : Prop where
  law    : SlotTallyLaw r w.slot
  wf     : w.slot.cells.wf = true
  grid   : 1 ≤ w.slot.rows ∧ 1 ≤ w.slot.cols
  totals : ∀ f p, Figure r f p → f w.totals = base f + f w.slot.tallies

theorem isTested_of_untested {c : Cell} (h : c.status = .untested) : isTested c = false := by simp [isTested, h]

theorem isTested_of_excluded {c : Cell} (h : c.status = .excluded) : isTested c = false := by simp [isTested, h]

theorem Judged.isTested {r : Recipe} {c c' : Cell} (h : Judged r c c') : isTested c' = true := by
  obtain h | ⟨h, _⟩ := h.status <;> simp [Safety.isTested, h]

theorem isExcluded_of_tested {c : Cell} (h : isTested c = true) : isExcluded c = false := by
  cases hs : c.status <;> simp_all [isTested, isExcluded]

theorem isExcluded_of_untested {c : Cell} (h : c.status = .untested) : isExcluded c = false := by
  simp [isExcluded, h]

theorem counted_of_tested {c : Cell} (h : isTested c = true) (p : Fin 64 → Bool) : counted p c = p c.bin := by
  simp [counted, h]

theorem counted_of_not_tested {c : Cell} (h : isTested c = false) (p : Fin 64 → Bool) : counted p c = false := by
  simp [counted, h]

/-- A written cell keeps tallies, map size and totals in step with the cells when every figure moves by what it counts
of the old and of the new cell, and the map size by whether they are excluded. -/
theorem Tallied.written {r : Recipe} {base : (Tallies → Nat) → Nat} {w v : Wafer} (hw : Tallied r base w) {k : Nat}
    {c : Cell} (hk : k < w.slot.size) (hg : v.slot.geometry = w.slot.geometry)
    (hc : v.slot.cells = w.slot.cells.write k c)
    (hm : v.slot.mapSize + (isExcluded c).toNat = w.slot.mapSize + (isExcluded (w.slot.cell k)).toNat)
    (hf : ∀ f p, Figure r f p →
      f v.slot.tallies + (counted p (w.slot.cell k)).toNat = f w.slot.tallies + (counted p c).toNat ∧
      f v.totals + f w.slot.tallies = f w.totals + f v.slot.tallies) : Tallied r base v := by
  obtain ⟨hfig, hmap⟩ := slotTallyLaw_iff.1 hw.law
  have hcount := cellCount_write hg hc hk hw.wf
  refine ⟨slotTallyLaw_iff.2 ⟨fun f p hfp => ?_, ?_⟩, ?_, ?_, fun f p hfp => ?_⟩
  · have h1 := hcount (counted p)
    have h2 := (hf f p hfp).1
    have h3 := hfig f p hfp
    omega
  · have h1 := hcount isExcluded
    rw [size_congr hg]
    omega
  · rw [hc]
    exact Memory.wf_write hw.wf
  · simp only [Slot.rows, Slot.cols, hg]
    exact hw.grid
  · have h1 := (hf f p hfp).2
    have h2 := hw.totals f p hfp
    omega

/-- A figure is at least what it counts of one cell. -/
theorem Tallied.counted_le {r : Recipe} {base : (Tallies → Nat) → Nat} {w : Wafer} (hw : Tallied r base w) {k : Nat}
    (hk : k < w.slot.size) {f : Tallies → Nat} {p : Fin 64 → Bool} (hfp : Figure r f p) :
    (counted p (w.slot.cell k)).toNat ≤ f w.slot.tallies := by
  rw [(slotTallyLaw_iff.1 hw.law).1 f p hfp]
  exact cellCount_pos hk _

/-- A map with a cell that is not excluded has a map size of at least 1. -/
theorem Tallied.mapSize_pos {r : Recipe} {base : (Tallies → Nat) → Nat} {w : Wafer} (hw : Tallied r base w) {k : Nat}
    (hk : k < w.slot.size) (h : isExcluded (w.slot.cell k) = false) : 1 ≤ w.slot.mapSize := by
  have hmap := (slotTallyLaw_iff.1 hw.law).2
  have hlt : cellCount w.slot isExcluded < w.slot.size :=
    (List.countP_lt_length_iff.2 ⟨k, List.mem_range.2 hk, h⟩).trans_eq List.length_range
  omega

/-- One cell change keeps tallies, map size and totals in step with the cells. -/
theorem CellStep.tallied {r : Recipe} {base : (Tallies → Nat) → Nat} {w v : Wafer} (h : CellStep r w v)
    (hw : Tallied r base w) : Tallied r base v := by
  cases h with
  | shadow => exact ⟨slotTallyLaw_same hw.law rfl rfl rfl rfl, hw.wf, hw.grid, hw.totals⟩
  | keep k c hk ht hj hb =>
    refine hw.written (hk hw.grid.1 hw.grid.2) rfl rfl ?_ fun f p hfp => ?_
    · rw [isExcluded_of_tested ht, isExcluded_of_tested hj.isTested]
      rfl
    · rw [counted_of_tested ht, counted_of_tested hj.isTested, hb]
      exact ⟨rfl, rfl⟩
  | add k c hk ht hj =>
    refine hw.written (hk hw.grid.1 hw.grid.2) rfl rfl ?_ fun f p hfp => ?_
    · rw [isExcluded_of_tested hj.isTested, isExcluded_of_untested ht]
      rfl
    · simp only [Wafer.tally_slot, Wafer.tally_totals, Wafer.write_slot, Wafer.write_totals, hfp.add,
        counted_of_not_tested (isTested_of_untested ht), counted_of_tested hj.isTested, Bool.toNat_false]
      omega
  | move k c hk ht hj hb =>
    have hk' := hk hw.grid.1 hw.grid.2
    refine hw.written hk' rfl rfl ?_ fun f p hfp => ?_
    · rw [isExcluded_of_tested ht, isExcluded_of_tested hj.isTested]
      rfl
    · have hle := hw.counted_le hk' hfp
      rw [counted_of_tested ht] at hle ⊢
      rw [counted_of_tested hj.isTested]
      have htotals := hw.totals f p hfp
      have h1 := hfp.move (t := w.slot.tallies) hb hle
      have h2 := hfp.move (t := w.totals) hb (by omega)
      simp only [Wafer.tally_slot, Wafer.tally_totals, Wafer.write_slot, Wafer.write_totals]
      omega
  | excludes k hk ht =>
    have hk' := hk hw.grid.1 hw.grid.2
    have hex : isExcluded (w.slot.cell k) = false := beq_eq_false_iff_ne.2 ht
    have hmap : w.slot.mapSize - 1 + (isExcluded Cell.excludedCell).toNat =
        w.slot.mapSize + (isExcluded (w.slot.cell k)).toNat := by
      rw [hex]
      exact Nat.sub_add_cancel (hw.mapSize_pos hk' hex)
    obtain hu | he | ht' := isTested_cases (w.slot.cell k)
    · rw [excludeCell_of_untested hu]
      refine hw.written hk' rfl rfl hmap fun f p hfp => ?_
      rw [counted_of_not_tested (isTested_of_untested hu), counted_of_not_tested rfl]
      exact ⟨rfl, rfl⟩
    · exact absurd he ht
    · rw [excludeCell_of_tested ht']
      refine hw.written hk' rfl rfl hmap fun f p hfp => ?_
      have hle := hw.counted_le hk' hfp
      have htotals := hw.totals f p hfp
      rw [counted_of_tested ht'] at hle ⊢
      rw [counted_of_not_tested (c := Cell.excludedCell) rfl]
      simp only [Wafer.tally_slot, Wafer.tally_totals, Wafer.write_slot, Wafer.write_totals, hfp.remove,
        Bool.toNat_false]
      omega
  | includes k hk ht =>
    rw [includeCell_of_excluded ht]
    refine hw.written (hk hw.grid.1 hw.grid.2) rfl rfl ?_ fun f p hfp => ?_
    · rw [show isExcluded (w.slot.cell k) = true from beq_iff_eq.2 ht]
      rfl
    · rw [counted_of_not_tested (isTested_of_excluded ht), counted_of_not_tested rfl]
      exact ⟨rfl, rfl⟩

theorem CellSteps.tallied {r : Recipe} {base : (Tallies → Nat) → Nat} {w v : Wafer} (h : CellSteps r w v)
    (hw : Tallied r base w) : Tallied r base v := by
  induction h with
  | refl => exact hw
  | tail _ hstep ih => exact hstep.tallied ih

end Sys2Proof.Machine
end

section
/-! PROOFS. The law of tallies through every move: the slots by what a move makes of each, the lots by how their figures
and the shares of their member slots move together. -/

namespace Sys2Proof.Machine

open Sys2Proof.Safety

/-! ### The sum over the member slots -/

/-- What a slot adds to the sum of a lot's member slots. -/
def share (k : Fin 16) (f : Tallies → Nat) (sl : Slot) : Nat :=
  if sl.inUse = true ∧ sl.identity.map Identity.lot = some k then f sl.tallies else 0

/-- The sum of a figure over the slots of a lot entry. -/
def memberTotal (slots : Vector Slot 64) (k : Fin 16) (f : Tallies → Nat) : Nat :=
  ((List.finRange 64).map fun (i : Fin 64) => share k f slots[i]).sum

theorem memberSum_eq (s : State) (k : Fin 16) (f : Tallies → Nat) : memberSum s k f = memberTotal s.slots k f := rfl

theorem sum_map_update {α : Type} {l : List α} (hl : l.Nodup) {a : α} (ha : a ∈ l) (f g : α → Nat)
    (h : ∀ b ∈ l, b ≠ a → g b = f b) : (l.map g).sum + f a = (l.map f).sum + g a := by
  induction l with
  | nil => cases ha
  | cons b l ih =>
    obtain ⟨hb, hl⟩ := List.nodup_cons.1 hl
    rw [List.map_cons, List.map_cons, List.sum_cons, List.sum_cons]
    obtain rfl | ha := List.mem_cons.1 ha
    · have : l.map g = l.map f :=
        List.map_congr_left fun c hc => h c (List.mem_cons_of_mem _ hc) fun k => hb (k ▸ hc)
      rw [this]
      omega
    · have hab : b ≠ a := fun k => hb (k ▸ ha)
      have := ih hl ha fun c hc => h c (List.mem_cons_of_mem _ hc)
      rw [h b List.mem_cons_self hab]
      omega

theorem memberTotal_set (slots : Vector Slot 64) (i : Fin 64) (sl : Slot) (k : Fin 16) (f : Tallies → Nat) :
    memberTotal (slots.set i sl) k f + share k f slots[i] = memberTotal slots k f + share k f sl := by
  have := sum_map_update (List.nodup_finRange 64) (List.mem_finRange i) (fun (j : Fin 64) => share k f slots[j])
    (fun (j : Fin 64) => share k f (slots.set i sl)[j]) fun j _ hj => by rw [get_set_ne slots sl hj.symm]
  rw [get_set_self] at this
  exact this

theorem share_le_memberTotal (slots : Vector Slot 64) (i : Fin 64) (k : Fin 16) (f : Tallies → Nat) :
    share k f slots[i] ≤ memberTotal slots k f :=
  List.single_le_sum (fun _ _ => Nat.zero_le _) _ (List.mem_map.2 ⟨i, List.mem_finRange i, rfl⟩)

theorem share_of_inUse {k : Fin 16} {f : Tallies → Nat} {sl : Slot} {d : Identity} (hu : sl.inUse = true)
    (hd : sl.identity = some d) : share k f sl = if d.lot = k then f sl.tallies else 0 := by
  simp [share, hu, hd]

theorem share_of_idle {k : Fin 16} {f : Tallies → Nat} {sl : Slot} (hu : sl.inUse = false) : share k f sl = 0 := by
  simp [share, hu]

theorem share_congr {k : Fin 16} {f : Tallies → Nat} {a b : Slot} (hu : b.inUse = a.inUse)
    (hd : b.identity = a.identity) (ht : b.tallies = a.tallies) : share k f b = share k f a := by
  simp only [share, hu, hd, ht]

theorem share_closedBy {sl : Slot} (hu : sl.inUse = true) (l : LimitStates) (d : Word16) (q : Nat) (k : Fin 16)
    (f : Tallies → Nat) : share k f ({ sl with limits := l }.closedBy d q) = share k f sl :=
  share_congr hu.symm rfl rfl

theorem share_reopened {sl : Slot} (hu : sl.inUse = true) (l : LimitStates) (k : Fin 16) (f : Tallies → Nat) :
    share k f { sl.reopened with limits := l } = share k f sl :=
  share_congr hu.symm rfl rfl

/-! ### The lots -/

/-- A figure is the figure of any recipe. -/
theorem Figure.recast {r : Recipe} {f : Tallies → Nat} {p : Fin 64 → Bool} (h : Figure r f p) (q : Recipe) :
    ∃ p', Figure q f p' := by
  cases h with
  | tested => exact ⟨_, .tested⟩
  | passed => exact ⟨_, .passed⟩
  | count b => exact ⟨_, .count b⟩

/-- Every lot's totals are its carry plus the sum over its member slots (R121). -/
def LotsTally (slots : Vector Slot 64) (lots : Vector Lot 16) : Prop := ∀ k : Fin 16, lots[k].state ≠ .free →
  ∀ r f p, Figure r f p → f lots[k].totals = f lots[k].carry + memberTotal slots k f

theorem LotsTally.set {slots : Vector Slot 64} {lots : Vector Lot 16} (h : LotsTally slots lots) {i : Fin 64}
    {sl : Slot} (hs : ∀ k r f p, Figure r f p → share k f sl = share k f slots[i]) :
    LotsTally (slots.set i sl) lots := by
  intro k hk r f p hfp
  have := memberTotal_set slots i sl k f
  rw [hs k r f p hfp] at this
  rw [h k hk r f p hfp]
  omega

theorem LotsTally.congr {slots : Vector Slot 64} {lots lots' : Vector Lot 16} (h : LotsTally slots lots)
    (hl : ∀ k : Fin 16, lots'[k].state ≠ .free → lots[k].state ≠ .free ∧ lots'[k].totals = lots[k].totals ∧
      lots'[k].carry = lots[k].carry) : LotsTally slots lots' := by
  intro k hk
  obtain ⟨hf, ht, hc⟩ := hl k hk
  rw [ht, hc]
  exact h k hf

/-- One lot entry is replaced by one with the same totals and carry. -/
theorem LotsTally.setLot {slots : Vector Slot 64} {lots : Vector Lot 16} (h : LotsTally slots lots) {k : Fin 16}
    {l : Lot} (hl : l.state ≠ .free → lots[k].state ≠ .free ∧ l.totals = lots[k].totals ∧ l.carry = lots[k].carry) :
    LotsTally slots (lots.set k l) := by
  refine h.congr fun q => ?_
  rw [get_set]
  split
  exacts [by subst k; exact hl, fun hf => ⟨hf, rfl, rfl⟩]

theorem LotsTally.setMember {s : State} {slots : Vector Slot 64} (h : LotsTally slots s.lots) (id : Option Identity)
    (f : Member → Member) : LotsTally slots (s.setMember id f).lots := by
  cases id with
  | none => exact h
  | some d =>
    refine LotsTally.setLot h ?_
    exact fun hf => ⟨hf, rfl, rfl⟩

theorem LotsTally.of_free {slots : Vector Slot 64} {lots : Vector Lot 16} (h : ∀ k : Fin 16, lots[k] = Lot.free) :
    LotsTally slots lots := fun k hk => absurd (congrArg Lot.state (h k)) hk

/-- R32: each lot after a retirement. -/
theorem retire_lot {s : State} {i : Fin 64} {d : Identity} (hd : s.slots[i].identity = some d) (k : Fin 16) :
    (s.retire i).lots[k] = if d.lot = k then
      { s.lots[k] with
        carry := s.lots[k].carry.plus s.slots[i].tallies
        members := s.lots[k].members.map fun m =>
          if m.wafer = d.wafer then { m with slot := none, retired := true } else m }
      else s.lots[k] := by
  simpa [Fin.val_inj] using State.retire_lots hd k k.isLt

/-- R32, R122: a retirement folds the tallies into the carry. -/
theorem lotsTally_retire {s : State} (hl : LifeLaw s) (h : LotsTally s.slots s.lots) {i : Fin 64}
    (hi : s.slots[i].state = .closed) : LotsTally (s.retire i).slots (s.retire i).lots := by
  have hu := inUse_of_state hi nofun nofun
  obtain ⟨d, _, hd, _⟩ := hl.held i hu
  intro k hk r f p hfp
  have hset := memberTotal_set s.slots i (Slot.empty .clearing s.slots[i].cells) k f
  rw [share_of_inUse hu hd, share_of_idle rfl, ← retire_slots] at hset
  rw [retire_lot hd] at hk ⊢
  split at hk
  next hdk =>
    rw [if_pos hdk] at hset ⊢
    have := h k hk r f p hfp
    simp only [hfp.plus]
    omega
  next hdk =>
    rw [if_neg hdk] at hset ⊢
    have := h k hk r f p hfp
    omega

theorem lotsTally_foldl_retire (is : List (Fin 64)) (hn : is.Nodup) {s : State} (hl : LifeLaw s)
    (hs : ∀ i ∈ is, s.slots[i].state = .closed ∧ s.slots[i].busy = none) (h : LotsTally s.slots s.lots) :
    LotsTally (is.foldl State.retire s).slots (is.foldl State.retire s).lots := by
  induction is generalizing s with
  | nil => exact h
  | cons i rest ih =>
    obtain ⟨hi, hrest⟩ := List.nodup_cons.1 hn
    obtain ⟨hstate, hbusy⟩ := hs i List.mem_cons_self
    refine ih hrest (lifeLaw_retire hl hstate hbusy) (fun j hj => ?_) (lotsTally_retire hl h hstate)
    have hij : i ≠ j := fun k => hi (k ▸ hj)
    rw [retire_slots, get_set_ne _ _ hij]
    exact hs j (List.mem_cons_of_mem _ hj)

/-! ### Tallies of slots -/

/-- Every slot's tallies are those of its cells, and a slot with no map has none (R20). -/
structure SlotsTally (s : State) : Prop where
  slots : ∀ i : Fin 64, s.slots[i].inUse = true → SlotTallyLaw (s.recipeOfSlot i) s.slots[i]
  empty : ∀ i : Fin 64, s.slots[i].inUse = false → s.slots[i].tallies = Tallies.zero ∧ s.slots[i].mapSize = 0

theorem tallyLaw_iff {s : State} : TallyLaw s ↔ SlotsTally s ∧ LotsTally s.slots s.lots := by
  refine ⟨fun h => ⟨⟨h.slots, h.empty⟩, fun k hk r f p hfp => ?_⟩, fun ⟨hs, hl⟩ => ⟨hs.slots, hs.empty, fun k hk => ?_⟩⟩
  · obtain ⟨ht, hp, hb⟩ := h.lots k hk
    cases hfp with
    | tested => exact ht
    | passed => exact hp
    | count b => exact hb b
  · have := hl k hk Recipe.reset
    exact ⟨this _ _ .tested, this _ _ .passed, fun b => this _ _ (.count b)⟩

/-- R27: a freshly initialized slot has tallied nothing. -/
theorem slotTallyLaw_openedSlot (s : State) (o : PendingOpen) (r : Recipe) : SlotTallyLaw r (openedSlot s o) := by
  have hcell : ∀ k, (openedSlot s o).cell k = Memory.read k (Memory.initial ⟨o.rows, o.cols, o.round⟩) := fun _ => rfl
  have htested : ∀ k, isTested ((openedSlot s o).cell k) = false := fun k => by
    rw [hcell, Memory.read_initial]
    split <;> rfl
  have hex : ∀ k, k < o.rows * o.cols → isExcluded ((openedSlot s o).cell k) =
      excludedAtOpen ⟨o.rows, o.cols, o.round⟩ k := fun k hk => by
    rw [hcell, Memory.read_initial]
    cases he : excludedAtOpen ⟨o.rows, o.cols, o.round⟩ k <;> simp [hk, isExcluded, Cell.excludedCell, Cell.blank]
  have hcount : cellCount (openedSlot s o) isExcluded = (openExclusions ⟨o.rows, o.cols, o.round⟩).length := by
    rw [openExclusions, ← List.countP_eq_length_filter]
    exact List.countP_congr fun k hk => by rw [hex k (List.mem_range.1 hk)]
  refine slotTallyLaw_iff.2 ⟨fun f p hfp => ?_, ?_⟩
  · rw [show (openedSlot s o).tallies = Tallies.zero from rfl, hfp.zero]
    exact (List.countP_eq_zero.2 fun k _ => by simp [counted, htested k]).symm
  · rw [hcount]
    refine Nat.sub_add_cancel ?_
    exact (List.length_filter_le _ _).trans_eq List.length_range

/-- R150: release changes no figure. -/
theorem slotTallyLaw_reopened {r : Recipe} {sl : Slot} (h : SlotTallyLaw r sl) (l : LimitStates) :
    SlotTallyLaw r { sl.reopened with limits := l } := by
  refine slotTallyLaw_congr h rfl rfl rfl fun k => ?_
  have hcell : ({ sl.reopened with limits := l } : Slot).cell k =
      (if sl.forceHold then sl.cells else sl.cells.release sl.size).read k := rfl
  rw [hcell]
  split
  · exact ⟨rfl, rfl, rfl⟩
  · rw [Memory.read_release]
    split
    · unfold releaseCell
      split
      next hf => simp [isTested, isExcluded, Slot.cell, hf]
      next => exact ⟨rfl, rfl, rfl⟩
    · exact ⟨rfl, rfl, rfl⟩

/-- R121: the workspace of an OPEN slot, with the figures of its lot beside the slot's own. -/
theorem tallied_wafer {s : State} (hl : LifeLaw s) (hr : RecordsLaw s) (hs : SlotsTally s)
    (hlots : LotsTally s.slots s.lots) {i : Fin 64} {d : Identity} (hu : s.slots[i].inUse = true)
    (hd : s.slots[i].identity = some d) :
    Tallied (s.recipeOfSlot i) (fun f => f s.lots[d.lot].totals - f s.slots[i].tallies) (s.wafer i) := by
  obtain ⟨d', g, hd', hg, hgrid, _⟩ := hl.held i hu
  obtain rfl := Option.some.inj (hd'.symm.trans hd)
  have hrows : s.slots[i].rows = g.rows := by rw [Slot.rows, hg]
  have hcols : s.slots[i].cols = g.cols := by rw [Slot.cols, hg]
  have htotals : (s.wafer i).totals = s.lots[d'.lot].totals := by
    simp only [State.wafer]
    rw [hd]
  refine ⟨hs.slots i hu, hr.memory i, ?_, fun f p hfp => ?_⟩
  · exact ⟨hrows ▸ hgrid.1, hcols ▸ hgrid.2.2.1⟩
  · have hle := share_le_memberTotal s.slots i d'.lot f
    rw [share_of_inUse hu hd, if_pos rfl] at hle
    have := hlots d'.lot (lot_not_free hl hu hd) _ f p hfp
    rw [htotals]
    refine (Nat.sub_add_cancel ?_).symm
    change f s.slots[i].tallies ≤ _
    omega

theorem SlotMove.empty {s : State} {j : Fin 64} {sl : Slot} (h : SlotMove s j sl) (hl : LifeLaw s)
    (hs : SlotsTally s) (hsl : sl.inUse = false) : sl.tallies = Tallies.zero ∧ sl.mapSize = 0 := by
  have hold : s.slots[j].inUse = false → sl.tallies = s.slots[j].tallies ∧ sl.mapSize = s.slots[j].mapSize →
      sl.tallies = Tallies.zero ∧ sl.mapSize = 0 := fun hu ⟨ht, hm⟩ => by
    rw [ht, hm]
    exact hs.empty j hu
  cases h with
  | same => exact hold hsl ⟨rfl, rfl⟩
  | reset => exact ⟨rfl, rfl⟩
  | emptied => exact ⟨rfl, rfl⟩
  | forgotten hc => exact hold (inUse_eq_false_iff.2 (.inr hc)) ⟨rfl, rfl⟩
  | opened o => cases hsl
  | attached o ho hc hp => exact hold (inUse_eq_false_iff.2 (.inr ((hl.clearExactly j).1 hc))) ⟨rfl, rfl⟩
  | freed hc hp => exact hold (inUse_eq_false_iff.2 (.inr ((hl.clearExactly j).1 hc))) ⟨rfl, rfl⟩
  | pinned => exact hold hsl ⟨rfl, rfl⟩
  | released hc => exact hold hsl ⟨rfl, rfl⟩
  | closing => cases hsl
  | closed => cases hsl
  | reopened => cases hsl
  | busied => exact hold hsl ⟨rfl, rfl⟩
  | exporting => cases hsl
  | exported => cases hsl
  | changed w l hopen hw =>
    have hstate : w.slot.state = s.slots[j].state := hw.sameWafer.state
    have hu : w.slot.inUse = true := inUse_of_state (hstate.trans hopen) nofun nofun
    exact absurd (hu.symm.trans hsl) nofun

theorem Move.keeps_slotsTally {s t : State} (h : Move s t) (hl : LifeLaw s) (hr : RecordsLaw s) (hs : SlotsTally s)
    (hlots : LotsTally s.slots s.lots) : SlotsTally t := by
  refine ⟨fun j hj => ?_, fun j hj => (h.slot j).empty hl hs hj⟩
  have hreset : t ≠ State.reset := by
    rintro rfl
    rw [reset_not_inUse] at hj
    cases hj
  have hold : s.slots[j].inUse = true → SlotTallyLaw (t.recipeAt s.slots[j].recipe) s.slots[j] := fun hu => by
    rw [h.recipeAt hl hreset hu]
    exact hs.slots j hu
  have hsame : ∀ {sl : Slot}, s.slots[j].inUse = true → sl.recipe = s.slots[j].recipe →
      sl.tallies = s.slots[j].tallies → sl.mapSize = s.slots[j].mapSize → sl.geometry = s.slots[j].geometry →
      sl.cells = s.slots[j].cells → SlotTallyLaw (t.recipeAt sl.recipe) sl := fun hu hrec ht hm hg hc => by
    rw [hrec]
    exact slotTallyLaw_same (hold hu) ht hm hg hc
  rw [State.recipeOfSlot]
  have hslot := h.slot j
  generalize t.slots[j] = sl at hslot hj
  cases hslot with
  | same => exact hold hj
  | reset => cases hj
  | emptied => cases hj
  | forgotten hc => exact absurd hc (inUse_iff.1 hj).2
  | opened o => exact slotTallyLaw_openedSlot s o _
  | attached => exact hsame hj rfl rfl rfl rfl rfl
  | freed => cases hj
  | pinned => exact hsame hj rfl rfl rfl rfl rfl
  | busied => exact hsame hj rfl rfl rfl rfl rfl
  | released => exact hsame hj rfl rfl rfl rfl rfl
  | closing hc => exact hsame (inUse_of_state hc nofun nofun) rfl rfl rfl rfl rfl
  | closed x rest l d hx hk hxj =>
    have hu : s.slots[j].inUse = true := hxj ▸ job_slot_inUse hl (hx ▸ List.mem_cons_self : x ∈ s.jobs)
    exact hsame hu rfl rfl rfl rfl rfl
  | reopened hc l =>
    exact slotTallyLaw_reopened (hold (inUse_of_state hc nofun nofun)) l
  | exporting hc => exact hsame (inUse_of_state hc nofun nofun) rfl rfl rfl rfl rfl
  | exported x hx hxj =>
    have hstate : s.slots[j].state = .exporting := (hl.exporting j).2 ⟨x, hx, hxj⟩
    exact hsame (inUse_of_state hstate nofun nofun) rfl rfl rfl rfl rfl
  | changed w l hc hw =>
    have hu := inUse_of_state hc nofun nofun
    obtain ⟨d, _, hd, _⟩ := hl.held j hu
    have htallied := hw.tallied (tallied_wafer hl hr hs hlots hu hd)
    have hrecipe : w.slot.recipe = s.slots[j].recipe := hw.sameWafer.recipe
    dsimp only
    rw [hrecipe, h.recipeAt hl hreset hu]
    exact slotTallyLaw_same htallied.law rfl rfl rfl rfl

/-! ### The lots through every move -/

/-- R121: a change of cells moves the totals of the lot alike. -/
theorem lotsTally_change {s : State} (hl : LifeLaw s) (hr : RecordsLaw s) (hs : SlotsTally s)
    (hlots : LotsTally s.slots s.lots) {i : Fin 64} {w : Wafer} (hi : s.slots[i].state = .opened)
    (hw : CellSteps (s.recipeOfSlot i) (s.wafer i) w) :
    LotsTally (s.settle i w).1.slots (s.settle i w).1.lots := by
  have hu := inUse_of_state hi nofun nofun
  have hwafer : SameWafer s.slots[i] w.slot := hw.sameWafer
  obtain ⟨d, _, hd, _⟩ := hl.held i hu
  have hd' : w.slot.identity = some d := hwafer.identity.trans hd
  obtain ⟨l, _, hslots⟩ := settle_slots_marked s i w
  obtain ⟨l', _, hlots'⟩ := settle_lots (s := s) (i := i) hd'
  have htallied := hw.tallied (tallied_wafer hl hr hs hlots hu hd)
  have hu' : ({ w.slot with limits := l } : Slot).inUse = true :=
    inUse_of_state (hwafer.state.trans hi) nofun nofun
  rw [hslots, hlots']
  intro k hk r f p hfp
  have hset := memberTotal_set s.slots i { w.slot with limits := l } k f
  rw [share_of_inUse hu hd, share_of_inUse hu' hd'] at hset
  have htallies : ({ w.slot with limits := l } : Slot).tallies = w.slot.tallies := rfl
  generalize ({ w.slot with limits := l } : Slot) = sl at hset htallies ⊢
  rw [htallies] at hset
  rw [get_set] at hk ⊢
  split at hk
  next hdk =>
    subst hdk
    rw [if_pos rfl, if_pos rfl] at hset
    rw [if_pos rfl]
    obtain ⟨p', hfp'⟩ := hfp.recast (s.recipeOfSlot i)
    have htotals := htallied.totals f p' hfp'
    have hold := hlots d.lot hk r f p hfp
    have hle := share_le_memberTotal s.slots i d.lot f
    rw [share_of_inUse hu hd, if_pos rfl] at hle
    simp only at htotals ⊢
    omega
  next hdk =>
    rw [if_neg hdk, if_neg hdk] at hset
    rw [if_neg hdk, hlots k hk r f p hfp]
    omega

/-- A FREE lot entry has no member slot, and so opens with nothing in its totals and its carry. -/
theorem lotsTally_openLot {s : State} (hl : LifeLaw s) (hlots : LotsTally s.slots s.lots) {k : Fin 16} {l : Lot}
    (hk : s.lots[k].state = .free) (ht : l.totals = Tallies.zero) (hc : l.carry = Tallies.zero) :
    LotsTally s.slots (s.lots.set k l) := by
  intro q hq r f p hfp
  rw [get_set] at hq ⊢
  split at hq
  next hkq =>
    subst hkq
    have hnone : memberTotal s.slots k f = 0 := by
      refine List.sum_eq_zero fun x hx => ?_
      obtain ⟨i, _, rfl⟩ := List.mem_map.1 hx
      cases hu : s.slots[i].inUse with
      | false => exact share_of_idle hu
      | true =>
        obtain ⟨d, _, hd, _⟩ := hl.held i hu
        rw [share_of_inUse hu hd, if_neg]
        rintro rfl
        exact lot_not_free hl hu hd hk
    rw [if_pos rfl, ht, hc, hfp.zero, hnone]
  next hkq =>
    rw [if_neg hkq]
    exact hlots q hq r f p hfp

/-- A slot that holds no map opens with nothing tallied. -/
theorem LotsTally.opened {slots : Vector Slot 64} {lots : Vector Lot 16} (h : LotsTally slots lots) {i : Fin 64}
    (hi : slots[i].inUse = false) (s : State) (o : PendingOpen) : LotsTally (slots.set i (openedSlot s o)) lots :=
  h.set fun k r f p hfp => by
    rw [share_of_idle hi, share_of_inUse (d := ⟨o.lot, o.wafer⟩) rfl rfl]
    split
    exacts [hfp.zero, rfl]

/-- A slot with the same wafer, in use or not as before, and the same tallies. -/
theorem LotsTally.same {slots : Vector Slot 64} {lots : Vector Lot 16} (h : LotsTally slots lots) {i : Fin 64}
    {sl : Slot} (hu : sl.inUse = slots[i].inUse) (hd : sl.identity = slots[i].identity)
    (ht : sl.tallies = slots[i].tallies) : LotsTally (slots.set i sl) lots :=
  h.set fun _ _ _ _ _ => share_congr hu hd ht

section

variable {s : State} (hl : LifeLaw s) (hlots : LotsTally s.slots s.lots)
include hlots

theorem lotsTally_closeLot {k : Fin 16} {d : Disposition} (hk : s.lots[k].state = .opened) :
    LotsTally s.slots ((s.evaluateLot k).1.setLot k
      { (s.evaluateLot k).1.lots[k] with state := .closed, disposition := d }).lots := by
  have heval : LotsTally s.slots (s.evaluateLot k).1.lots := by
    refine hlots.setLot ?_
    exact fun hf => ⟨hf, rfl, rfl⟩
  refine heval.setLot fun _ => ⟨?_, rfl, rfl⟩
  simp only [State.evaluateLot_fst, State.setLot, get_set_self, hk]
  exact nofun

theorem lotsTally_leaveRetirement (i : Fin 64) :
    LotsTally (s.leaveRetirement i).1.slots (s.leaveRetirement i).1.lots := by
  obtain he | ⟨k, r, _, _, ⟨_, he⟩ | ⟨_, he⟩⟩ := s.leaveRetirement_cases i <;> rw [he]
  · exact hlots
  · refine hlots.setLot ?_
    exact fun hf => absurd rfl hf
  · refine hlots.setLot ?_
    exact fun hf => ⟨hf, rfl, rfl⟩

theorem lotsTally_reopen {c : Instr} {tag : Byte} {i : Fin 64} (hi : s.slots[i].state = .closed) :
    LotsTally (reopen c tag i s).state.slots (reopen c tag i s).state.lots := by
  obtain ⟨l, _, hslots⟩ := reopen_slots c tag i s
  rw [hslots, reopen_lots]
  have hu := inUse_of_state hi nofun nofun
  exact LotsTally.setMember (hlots.set fun k r f p _ => share_reopened hu l k f) _ _

include hl

theorem lotsTally_endClearing {i : Fin 64} {rest : List (Fin 64)} (h : s.clearList = i :: rest) (ds : List Done) :
    LotsTally (({ s with clearList := rest }.endClearing i).1.hand ds).slots
      (({ s with clearList := rest }.endClearing i).1.hand ds).lots := by
  have hi : s.slots[i].inUse = false :=
    inUse_eq_false_iff.2 (.inr ((hl.clearExactly i).1 (h ▸ List.mem_cons_self)))
  unfold State.endClearing
  dsimp only
  split
  next o ho =>
    simp only [State.hand, State.setMember_slots]
    exact LotsTally.setMember (s := ({ s with clearList := rest } : State).initSlot i o) (hlots.opened hi _ o) _ _
  next => exact hlots.same (inUse_eq_false_iff.2 (.inl rfl) |>.trans hi.symm) rfl rfl

theorem lotsTally_endSweep {x : Job} {rest : List Job} (h : s.jobs = x :: rest) :
    LotsTally (s.endSweep x rest).slots (s.endSweep x rest).lots := by
  obtain ⟨l, d, _, _, hslots⟩ := endSweep_slots s x rest
  obtain ⟨y, v, hlots'⟩ := endSweep_lots s x rest
  rw [hslots, hlots']
  have hu := job_slot_inUse hl (h ▸ List.mem_cons_self : x ∈ s.jobs)
  exact LotsTally.setMember (hlots.set fun k r f p _ => share_closedBy hu l d _ k f) _ _

end

theorem Move.keeps_lotsTally {s t : State} (h : Move s t) (hl : LifeLaw s) (hr : RecordsLaw s) (hs : SlotsTally s)
    (hlots : LotsTally s.slots s.lots) : LotsTally t.slots t.lots := by
  have hsame : ∀ {i : Fin 64} {sl : Slot}, sl.inUse = s.slots[i].inUse → sl.identity = s.slots[i].identity →
      sl.tallies = s.slots[i].tallies → LotsTally (s.slots.set i sl) s.lots :=
    fun hu hd ht => hlots.set fun _ _ _ _ _ => share_congr hu hd ht
  have hbusy : ∀ (i : Fin 64) (b : Option Busy), LotsTally (s.slots.set i { s.slots[i] with busy := b }) s.lots :=
    fun i b => hsame rfl rfl rfl
  have hidle : ∀ {i : Fin 64} {sl : Slot}, s.slots[i].inUse = false → sl.inUse = false →
      LotsTally (s.slots.set i sl) s.lots :=
    fun hu hu' => hlots.set fun _ _ _ _ _ => (share_of_idle hu').trans (share_of_idle hu).symm
  have hclearing : ∀ {i : Fin 64}, i ∈ s.clearList → s.slots[i].inUse = false :=
    fun hi => inUse_eq_false_iff.2 (.inr ((hl.clearExactly _).1 hi))
  cases h with
  | quiet h => rwa [h.slots, h.lots]
  | reset => exact .of_free fun k => by simp [State.reset]
  | openLot k ident r hk =>
    exact lotsTally_openLot hl hlots hk (l := Lot.fresh ident r) rfl rfl
  | closeLot k d hk ha => exact lotsTally_closeLot hlots hk
  | freeLot k hk he =>
    refine hlots.setLot ?_
    exact fun hf => absurd rfl hf
  | retireLot k tag hk hh hc =>
    have hfold := lotsTally_foldl_retire s.lots[k].memberSlots ((List.nodup_finRange 64).filter _) hl
      (fun i hi => memberSlot_closed hl hk hh hi) hlots
    refine hfold.setLot fun _ => ⟨?_, rfl, rfl⟩
    rw [(foldl_retire_lot_members s.lots[k].memberSlots s k).1, hk]
    exact nofun
  | releaseLot k hk =>
    refine hlots.setLot ?_
    exact fun hf => ⟨hf, rfl, rfl⟩
  | openNow i o ho hi =>
    refine (hlots.opened (inUse_eq_false_iff.2 (.inl hi)) s o).setLot ?_
    exact fun hf => ⟨hf, rfl, rfl⟩
  | attach i o ho hi hp hc =>
    refine (hidle (hclearing hi) ?_).setLot ?_
    · exact hclearing hi
    · exact fun hf => ⟨hf, rfl, rfl⟩
  | endClearing i rest h => exact lotsTally_endClearing hl hlots h _
  | leaveRetirement i => exact lotsTally_leaveRetirement hlots i
  | retire i hi hb => exact lotsTally_retire hl hlots hi
  | pin i hi hp hn => exact hsame rfl rfl rfl
  | unpin i hi hp => exact hsame rfl rfl rfl
  | releaseWafer i hi =>
    rw [State.setMember_slots]
    have hset : LotsTally (s.slots.set i { s.slots[i] with disposition := .released }) s.lots := hsame rfl rfl rfl
    exact LotsTally.setMember (s := s.setSlot i { s.slots[i] with disposition := .released }) hset _ _
  | closeWafer i tag hi hb hj hc =>
    refine hsame ?_ rfl rfl
    exact (inUse_of_state hi nofun nofun).symm
  | endSweep x rest h hk => exact lotsTally_endSweep hl hlots h
  | reopen c tag i hi hb hlot => exact lotsTally_reopen hlots hi
  | digest i => exact hbusy i (some .digest)
  | endDigest x rest h hk => exact hbusy x.slot none
  | startExport i tag ht hi hb hc =>
    refine hsame ?_ rfl rfl
    exact (inUse_of_state hi nofun nofun).symm
  | endExport x h hp =>
    have hstate : s.slots[x.slot].state = .exporting := (hl.exporting _).2 ⟨x, h, rfl⟩
    have hset : LotsTally (s.slots.set x.slot
        { s.slots[x.slot] with state := .closed, busy := none, exported := !x.stop }) s.lots :=
      hsame (inUse_of_state hstate nofun nofun).symm rfl rfl
    exact hset
  | change i w hi hw => exact lotsTally_change hl hr hs hlots hi hw
  | clearAll hc => exact .of_free fun k => by simp [Machine.clearAll, State.hand]
  | _ => exact hlots

/-- Settles O59: the tallies of slots and of lots go through every move together, with the laws of lives and of the
records. -/
theorem everyStepKeepsTheTallies : Obligations.EveryStepKeepsTheTallies := by
  intro s t hl hr hs h
  have hall : LifeLaw t ∧ RecordsLaw t ∧ SlotsTally t ∧ LotsTally t.slots t.lots :=
    step_keeps (P := fun s => LifeLaw s ∧ RecordsLaw s ∧ SlotsTally s ∧ LotsTally s.slots s.lots)
      (fun hmove ⟨hl, hr, hs, hlots⟩ => ⟨hmove.keeps_lifeLaw hl, hmove.keeps_recordsLaw hr,
        hmove.keeps_slotsTally hl hr hs hlots, hmove.keeps_lotsTally hl hr hs hlots⟩) ⟨hl, hr, tallyLaw_iff.1 hs⟩ h
  exact tallyLaw_iff.2 hall.2.2

end Sys2Proof.Machine
end

section
/-! PROOFS. Every step keeps the law of digests and the law of close results. -/

namespace Sys2Proof.Machine

open Sys2Proof.Safety

/-! ### The digest of a map, part by part (R144, R152) -/

theorem digestCellsFrom_self (reg : Word16) (m : Memory) (n : Nat) : digestCellsFrom reg m n n = reg := by
  simp [digestCellsFrom]

/-- Reading on from where a digest stopped. -/
theorem digestCellsFrom_append (reg : Word16) (m : Memory) {a b c : Nat} (hab : a ≤ b) (hbc : b ≤ c) :
    digestCellsFrom (digestCellsFrom reg m a b) m b c = digestCellsFrom reg m a c := by
  have hrange : List.range' a (b - a) ++ List.range' b (c - b) = List.range' a (c - a) := by
    have := List.range'_append_1 (s := a) (m := b - a) (n := c - b)
    rwa [Nat.add_sub_cancel' hab, show b - a + (c - b) = c - a by omega] at this
  simp only [digestCellsFrom]
  rw [← hrange, List.foldl_append]

/-- R159: the encodings of a chunk go into the register as its cells do. -/
theorem crcFrom_chunkCells (reg : Word16) (sl : Slot) (k : Nat) :
    crcFrom reg ((chunkCells sl k).flatMap Cell.encoding) =
      digestCellsFrom reg sl.cells (64 * k) (64 * k + min 64 (sl.size - 64 * k)) := by
  rw [digestCellsFrom_eq_crcFrom, chunkCells, List.flatMap_map]
  rfl

/-- R159: the register after the next chunk. -/
theorem digestUpTo_next {sl : Slot} {k : Nat} (hk : k < chunkCount sl.size) :
    crcFrom (digestUpTo sl (min (64 * k) sl.size)) ((chunkCells sl k).flatMap Cell.encoding) =
      digestUpTo sl (min (64 * (k + 1)) sl.size) := by
  have hlt : 64 * k < sl.size := by
    unfold chunkCount at hk
    omega
  rw [crcFrom_chunkCells, digestUpTo, digestUpTo, Nat.min_eq_left hlt.le,
    digestCellsFrom_append _ _ (Nat.zero_le _) (Nat.le_add_right _ _)]
  congr 1
  omega

/-! ### Digests of closed maps -/

/-- The close digest of a slot that is CLOSED or EXPORTING is that of its cells. -/
def DigestOk (sl : Slot) : Prop :=
  sl.state = .closed ∨ sl.state = .exporting → sl.closeDigest = some (digestUpTo sl sl.size)

theorem DigestOk.of_other {sl : Slot} {x : SlotState} (h : sl.state = x) (h1 : x ≠ .closed) (h2 : x ≠ .exporting) :
    DigestOk sl := fun k => (k.elim (fun k => h1 (h.symm.trans k)) fun k => h2 (h.symm.trans k)).elim

/-- A slot with the same map and the same close digest. -/
theorem DigestOk.same {a b : Slot} (h : a.state = .closed ∨ a.state = .exporting →
    a.closeDigest = some (digestUpTo a a.size)) (hs : b.state = .closed ∨ b.state = .exporting →
    a.state = .closed ∨ a.state = .exporting) (hd : b.closeDigest = a.closeDigest) (hg : b.geometry = a.geometry)
    (hc : b.cells = a.cells) : DigestOk b := fun k => by
  rw [hd, h (hs k), digestUpTo, digestUpTo, hc, size_congr hg]

/-- What the law of digests says of the sweep jobs. -/
def SweepOk (slots : Vector Slot 64) (j : Job) : Prop :=
  j.next = 0 ∧ j.stop = slots[j.slot].size ∧ j.register = 0xFFFF

theorem SlotMove.digestOk {s : State} {j : Fin 64} {sl : Slot} (h : SlotMove s j sl) (hl : LifeLaw s)
    (hs : DigestOk s.slots[j]) (hsweeps : ∀ x ∈ s.jobs, x.kind = .sweep → SweepOk s.slots x) : DigestOk sl := by
  cases h with
  | same => exact hs
  | reset => exact .of_other rfl nofun nofun
  | emptied => exact .of_other rfl nofun nofun
  | forgotten hc => exact .of_other hc nofun nofun
  | opened o => exact .of_other rfl nofun nofun
  | attached o ho hc => exact .of_other ((hl.clearExactly j).1 hc) nofun nofun
  | freed => exact .of_other rfl nofun nofun
  | pinned => exact .same hs id rfl rfl rfl
  | released => exact .same hs id rfl rfl rfl
  | closing => exact .of_other rfl nofun nofun
  | closed x rest l d hx hk hxj hd hmark =>
    obtain ⟨hnext, hstop, hreg⟩ := hsweeps x (hx ▸ List.mem_cons_self) hk
    rw [hnext, hstop, hreg, get_congr s.slots hxj] at hd
    exact fun _ => congrArg some hd
  | reopened => exact .of_other rfl nofun nofun
  | busied => exact .same hs id rfl rfl rfl
  | exporting hc => exact .same hs (fun _ => .inl hc) rfl rfl rfl
  | exported x hx hxj => exact .same hs (fun _ => .inr ((hl.exporting j).2 ⟨x, hx, hxj⟩)) rfl rfl rfl
  | changed w l hc hw =>
    have hstate : w.slot.state = s.slots[j].state := hw.sameWafer.state
    exact .of_other (hstate.trans hc) nofun nofun

/-! ### Maps under a sweep or an export -/

/-- Every slot in CLOSING or EXPORTING keeps its map. -/
def KeepsMaps (slots slots' : Vector Slot 64) : Prop := ∀ j : Fin 64,
  slots[j].state = .closing ∨ slots[j].state = .exporting →
    slots'[j].geometry = slots[j].geometry ∧ slots'[j].cells = slots[j].cells

theorem KeepsMaps.rfl {slots : Vector Slot 64} : KeepsMaps slots slots := fun _ _ => ⟨Eq.refl _, Eq.refl _⟩

theorem KeepsMaps.set {slots : Vector Slot 64} {i : Fin 64} {sl : Slot}
    (h : slots[i].state = .closing ∨ slots[i].state = .exporting →
      sl.geometry = slots[i].geometry ∧ sl.cells = slots[i].cells) : KeepsMaps slots (slots.set i sl) := by
  intro j hj
  rw [get_set]
  split
  exacts [by subst i; exact h hj, ⟨Eq.refl _, Eq.refl _⟩]

theorem KeepsMaps.set_other {slots : Vector Slot 64} {i : Fin 64} {sl : Slot} {x : SlotState} (h : slots[i].state = x)
    (h1 : x ≠ .closing) (h2 : x ≠ .exporting) : KeepsMaps slots (slots.set i sl) :=
  .set fun k => (k.elim (fun k => h1 (h.symm.trans k)) fun k => h2 (h.symm.trans k)).elim

/-- A move keeps the maps under a sweep or an export, or ends all sweeps and exports. -/
theorem Move.keepsMaps {s t : State} (h : Move s t) (hl : LifeLaw s) :
    KeepsMaps s.slots t.slots ∨ (t.jobs = [] ∧ t.transfer = none) := by
  cases h with
  | quiet h => rw [h.slots]; exact .inl .rfl
  | reset => exact .inr ⟨rfl, rfl⟩
  | retireLot k tag hk hh hc =>
    refine .inl fun j hj => ?_
    rw [State.setLot_slots, foldl_retire_get]
    split
    next hmem =>
      rw [(memberSlot_closed hl hk hh hmem).1] at hj
      obtain hj | hj := hj <;> cases hj
    next => exact ⟨rfl, rfl⟩
  | openNow i o ho hi => exact .inl (.set_other hi nofun nofun)
  | attach i o ho hi hp hc => exact .inl (.set_other ((hl.clearExactly i).1 hi) nofun nofun)
  | endClearing i rest h =>
    have hi := (hl.clearExactly i).1 (h ▸ List.mem_cons_self)
    unfold State.endClearing
    dsimp only
    split
    · simp only [State.hand, State.setMember_slots]
      exact .inl (.set_other hi nofun nofun)
    · exact .inl (.set_other hi nofun nofun)
  | leaveRetirement i =>
    obtain he | ⟨k, r, _, _, ⟨_, he⟩ | ⟨_, he⟩⟩ := s.leaveRetirement_cases i <;> rw [he] <;> exact .inl .rfl
  | retire i hi hb =>
    rw [retire_slots]
    exact .inl (.set_other hi nofun nofun)
  | pin i => exact .inl (.set fun _ => ⟨rfl, rfl⟩)
  | unpin i => exact .inl (.set fun _ => ⟨rfl, rfl⟩)
  | releaseWafer i hi =>
    rw [State.setMember_slots]
    exact .inl (.set fun _ => ⟨rfl, rfl⟩)
  | closeWafer i tag hi hb hj hc => exact .inl (.set fun _ => ⟨rfl, rfl⟩)
  | endSweep x rest h hk =>
    obtain ⟨l, d, _, _, hslots⟩ := endSweep_slots s x rest
    rw [hslots]
    exact .inl (.set fun _ => ⟨rfl, rfl⟩)
  | reopen c tag i hi hb hlot =>
    obtain ⟨l, _, hslots⟩ := reopen_slots c tag i s
    rw [hslots]
    exact .inl (.set_other hi nofun nofun)
  | digest i => exact .inl (.set fun _ => ⟨rfl, rfl⟩)
  | endDigest x rest h hk => exact .inl (.set fun _ => ⟨rfl, rfl⟩)
  | startExport i tag ht hi hb hc => exact .inl (.set fun _ => ⟨rfl, rfl⟩)
  | endExport x h hp => exact .inl (.set fun _ => ⟨rfl, rfl⟩)
  | change i w hi hw =>
    obtain ⟨l, _, hslots⟩ := settle_slots_marked s i w
    rw [hslots]
    exact .inl (.set_other hi nofun nofun)
  | clearAll hc => exact .inr ⟨rfl, rfl⟩
  | _ => exact .inl .rfl

/-- A sweep job after a move was there before, or is the job of a CLWF. -/
theorem Move.sweep_cases {s t : State} (h : Move s t) {j : Job} (hj : j ∈ t.jobs) (hk : j.kind = .sweep) :
    j ∈ s.jobs ∨ ∃ (i : Fin 64) (tag : Byte), s.slots[i].state = .opened ∧ j = sweepJob s i tag ∧
      t.slots[i].size = s.slots[i].size := by
  cases h with
  | quiet h => exact .inl (h.jobs ▸ hj)
  | reset => cases hj
  | retireLot k tag =>
    have : ∀ (is : List (Fin 64)) (s : State), (is.foldl State.retire s).jobs = s.jobs := by
      intro is
      induction is with
      | nil => exact fun _ => rfl
      | cons i rest ih => exact fun s => (ih (s.retire i)).trans (State.retire_jobs s i)
    rw [State.setLot_jobs, this] at hj
    exact .inl hj
  | endClearing i rest h =>
    unfold State.endClearing at hj
    dsimp only at hj
    split at hj
    · simp only [State.hand, State.setMember_jobs] at hj
      exact .inl hj
    · exact .inl hj
  | leaveRetirement i =>
    obtain he | ⟨k, r, _, _, ⟨_, he⟩ | ⟨_, he⟩⟩ := s.leaveRetirement_cases i <;> rw [he] at hj <;> exact .inl hj
  | retire i hi hb => exact .inl (by rwa [State.retire_jobs] at hj)
  | releaseWafer i hi => exact .inl (by rwa [State.setMember_jobs] at hj)
  | closeWafer i tag hi hb hlen hc =>
    obtain hj | hj := List.mem_append.1 hj
    · exact .inl hj
    · have hgeo : (s.slots.set i { s.slots[i] with state := .closing, busy := some .sweep })[i].geometry =
          s.slots[i].geometry := by rw [get_set_self]
      exact .inr ⟨i, tag, hi, List.mem_singleton.1 hj, size_congr hgeo⟩
  | endSweep x rest h hk' =>
    have hjobs : (s.endSweep x rest).jobs = rest := by simp [State.endSweep, State.hand]
    rw [hjobs] at hj
    exact .inl (h ▸ List.mem_cons_of_mem _ hj)
  | reopen c tag i hi hb hlot => exact .inl (by simpa [Machine.reopen] using hj)
  | digest i tag start count stop hi hb hlen hc =>
    obtain hj | hj := List.mem_append.1 hj
    · exact .inl hj
    · rw [List.mem_singleton.1 hj] at hk
      cases hk
  | endDigest x rest h hk' => exact .inl (h ▸ List.mem_cons_of_mem _ hj)
  | change i w hi hw =>
    rw [settle_jobs] at hj
    obtain he | ⟨x, rest, hjobs, hkind, _, he⟩ := s.readAhead_cases i <;> rw [he] at hj
    · exact .inl hj
    · obtain rfl | hj := List.mem_cons.1 hj
      · exact absurd (hkind.symm.trans hk) nofun
      · exact .inl (hjobs ▸ List.mem_cons_of_mem _ hj)
  | clearAll hc => cases hj
  | _ => exact .inl hj

/-! ### The export in flight -/

/-- What the law of digests says of the export in flight (R156 to R160). -/
def ExportOk (slots : Vector Slot 64) (x : Transfer) : Prop :=
  x.chunks = chunkCount slots[x.slot].size ∧ x.nextChunk ≤ x.chunks ∧
    x.register = digestUpTo slots[x.slot] (min (64 * x.nextChunk) slots[x.slot].size) ∧
    (x.phase = .ending → x.stop = false → x.nextChunk = x.chunks) ∧
    (x.phase = .chunks → x.nextChunk < x.chunks ∧ x.stop = false)

theorem ExportOk.congr {slots slots' : Vector Slot 64} {x : Transfer} (h : ExportOk slots x)
    (hg : slots'[x.slot].geometry = slots[x.slot].geometry) (hc : slots'[x.slot].cells = slots[x.slot].cells) :
    ExportOk slots' x := by
  unfold ExportOk digestUpTo at *
  rwa [size_congr hg, hc]

/-- R159: the export after the next chunk. -/
theorem exportOk_placeChunk {s : State} {x : Transfer} (h : ExportOk s.slots x) (hp : x.phase = .chunks) :
    ∃ y, (s.placeChunk x).transfer = some y ∧ y.slot = x.slot ∧ ExportOk s.slots y := by
  obtain ⟨hchunks, _, hreg, _, hphase⟩ := h
  obtain ⟨hlt, hstop⟩ := hphase hp
  refine ⟨_, rfl, rfl, hchunks, hlt, ?_, fun hend _ => ?_, fun hgo => ?_⟩
  · rw [hreg]
    exact digestUpTo_next (hchunks ▸ hlt)
  · have : x.chunks ≤ x.nextChunk + 1 := by
      by_contra hne
      simp [hne, hstop] at hend
    exact Nat.le_antisymm hlt this
  · refine ⟨?_, hstop⟩
    by_contra hne
    have : x.chunks ≤ x.nextChunk + 1 := not_lt.1 hne
    simp [this] at hgo

/-- R158: a fresh export. -/
theorem exportOk_start {slots : Vector Slot 64} {i : Fin 64} {tag : Byte} (hsize : 1 ≤ slots[i].size) :
    ExportOk slots ⟨i, tag, chunkCount slots[i].size, 0, 0xFFFF, false, .chunks⟩ := by
  refine ⟨rfl, Nat.zero_le _, ?_, nofun, fun _ => ⟨?_, rfl⟩⟩
  · simp only [Nat.mul_zero, Nat.zero_min]
    exact (digestCellsFrom_self _ _ _).symm
  · simp only [chunkCount]
    omega

/-- The export after a move is the one before, or one just started, one chunk further, or stopped. -/
theorem Move.exportOk {s t : State} (h : Move s t) (hl : LifeLaw s) (hs : ∀ x, s.transfer = some x → ExportOk s.slots x)
    {x : Transfer} (hx : t.transfer = some x) : ExportOk t.slots x := by
  have hkeep : KeepsMaps s.slots t.slots := by
    obtain hk | ⟨_, hnone⟩ := h.keepsMaps hl
    · exact hk
    · rw [hnone] at hx
      cases hx
  have hold : s.transfer = some x → ExportOk t.slots x := fun hx' => by
    obtain ⟨hg, hc⟩ := hkeep x.slot (.inr ((hl.exporting _).2 ⟨x, hx', rfl⟩))
    exact (hs x hx').congr hg hc
  cases h with
  | quiet h => exact hold (h.transfer ▸ hx)
  | reset => cases hx
  | retireLot k tag =>
    have : ∀ (is : List (Fin 64)) (s : State), (is.foldl State.retire s).transfer = s.transfer := by
      intro is
      induction is with
      | nil => exact fun _ => rfl
      | cons i rest ih => exact fun s => (ih (s.retire i)).trans (State.retire_transfer s i)
    rw [State.setLot_transfer, this] at hx
    exact hold hx
  | endClearing i rest h =>
    refine hold ?_
    unfold State.endClearing at hx
    dsimp only at hx
    split at hx
    · simpa only [State.hand, State.setMember_transfer, State.initSlot_transfer] using hx
    · exact hx
  | leaveRetirement i =>
    refine hold ?_
    obtain he | ⟨k, r, _, _, ⟨_, he⟩ | ⟨_, he⟩⟩ := s.leaveRetirement_cases i <;> rw [he] at hx <;> exact hx
  | retire i hi hb => exact hold (by rwa [State.retire_transfer] at hx)
  | releaseWafer i hi => exact hold (by rwa [State.setMember_transfer] at hx)
  | endSweep y rest h hk => exact hold (by simpa [State.endSweep, State.hand] using hx)
  | reopen c tag i hi hb hlot => exact hold (by simpa [Machine.reopen] using hx)
  | startExport i tag ht hi hb hc =>
    cases hx
    have hu := inUse_of_state hi nofun nofun
    obtain ⟨d, g, _, hg, hgrid, _⟩ := hl.held i hu
    have hsize : 1 ≤ s.slots[i].size := by
      simp only [Slot.size, Slot.rows, Slot.cols, hg]
      exact Nat.mul_pos hgrid.1 hgrid.2.2.1
    have hgeo : (s.slots.set i { s.slots[i] with state := .exporting, busy := some .transfer })[i].geometry =
        s.slots[i].geometry := by rw [get_set_self]
    have hcells : (s.slots.set i { s.slots[i] with state := .exporting, busy := some .transfer })[i].cells =
        s.slots[i].cells := by rw [get_set_self]
    exact (exportOk_start (tag := tag) hsize).congr hgeo hcells
  | placeChunk y h hp =>
    obtain ⟨z, hz, _, hok⟩ := exportOk_placeChunk (hs y h) hp
    obtain rfl := Option.some.inj (hz.symm.trans hx)
    exact hok
  | endExport y h hp => cases hx
  | stopExport y h =>
    cases hx
    obtain ⟨hchunks, hle, hreg, _⟩ := hs y h
    exact ⟨hchunks, hle, hreg, nofun, nofun⟩
  | change i w hi hw => exact hold (by rwa [State.settle_transfer] at hx)
  | clearAll hc => cases hx
  | _ => exact hold hx

theorem Move.keeps_digestLaw {s t : State} (h : Move s t) (hl : LifeLaw s) (hs : DigestLaw s) : DigestLaw t where
  closed i := (h.slot i).digestOk hl (hs.closed i) hs.sweeps
  sweeps j hj hk := by
    have hkeep : KeepsMaps s.slots t.slots := by
      obtain hk | ⟨hnone, _⟩ := h.keepsMaps hl
      · exact hk
      · rw [hnone] at hj
        cases hj
    obtain hold | ⟨i, tag, _, rfl, hsize⟩ := h.sweep_cases hj hk
    · have hgeo := (hkeep j.slot (.inl ((hl.jobs j hold).1 hk).1)).1
      rw [size_congr hgeo]
      exact hs.sweeps j hold hk
    · exact ⟨rfl, hsize.symm, rfl⟩
  transfer _ hx := h.exportOk hl hs.transfer hx

/-! ### Close results (R39, R145) -/

/-- The close results of one slot, under a close sequence counter. -/
def CloseOk (n : Nat) (sl : Slot) : Prop :=
  (sl.state = .closed ∨ sl.state = .exporting → (∃ q, sl.closeSeq = some q ∧ 1 ≤ q ∧ q ≤ n) ∧
    sl.finalYield = some sl.tallies.yield ∧ sl.disposition ≠ .none) ∧
  (sl.state ≠ .closed → sl.state ≠ .exporting → sl.closeSeq = none ∧ sl.finalYield = none ∧ sl.closeDigest = none ∧
    sl.disposition = .none ∧ sl.exported = false)

theorem closeLaw_iff {s : State} : CloseLaw s ↔ s.closeSeq ≤ 4294967295 ∧ ∀ i : Fin 64, CloseOk s.closeSeq s.slots[i] :=
  ⟨fun h => ⟨h.counter, fun i => ⟨h.closed i, h.others i⟩⟩, fun ⟨hc, h⟩ => ⟨hc, fun i => (h i).1, fun i => (h i).2⟩⟩

/-- A slot that is neither CLOSED nor EXPORTING and carries no close result. -/
theorem CloseOk.of_other {n : Nat} {sl : Slot} {x : SlotState} (hs : sl.state = x) (h1 : x ≠ .closed)
    (h2 : x ≠ .exporting) (h : sl.closeSeq = none ∧ sl.finalYield = none ∧ sl.closeDigest = none ∧
      sl.disposition = .none ∧ sl.exported = false) : CloseOk n sl :=
  ⟨fun k => (k.elim (fun k => h1 (hs.symm.trans k)) fun k => h2 (hs.symm.trans k)).elim, fun _ _ => h⟩

/-- The close results a slot without any carries. -/
theorem CloseOk.none {n : Nat} {sl : Slot} {x : SlotState} (h : CloseOk n sl) (hs : sl.state = x) (h1 : x ≠ .closed)
    (h2 : x ≠ .exporting) : sl.closeSeq = none ∧ sl.finalYield = none ∧ sl.closeDigest = none ∧
      sl.disposition = .none ∧ sl.exported = false := h.2 (hs ▸ h1) (hs ▸ h2)

theorem CloseOk.mono {n m : Nat} {sl : Slot} (h : CloseOk n sl) (hnm : n ≤ m) : CloseOk m sl :=
  ⟨fun k => by
    obtain ⟨⟨q, hq, h1, h2⟩, hrest⟩ := h.1 k
    exact ⟨⟨q, hq, h1, h2.trans hnm⟩, hrest⟩, h.2⟩

theorem closeOk_set {slots : Vector Slot 64} {n : Nat} (h : ∀ i : Fin 64, CloseOk n slots[i]) {i : Fin 64} {sl : Slot}
    (hsl : CloseOk n sl) (j : Fin 64) : CloseOk n (slots.set i sl)[j] := by
  rw [get_set]
  split
  exacts [hsl, h j]

theorem closeOk_empty (n : Nat) (m : Memory) : CloseOk n (Slot.empty .clearing m) :=
  .of_other rfl nofun nofun ⟨rfl, rfl, rfl, rfl, rfl⟩

theorem closeOk_closedBy {n q : Nat} (sl : Slot) (d : Word16) (h1 : 1 ≤ q) (h2 : q ≤ n) :
    CloseOk n (sl.closedBy d q) := by
  refine ⟨fun _ => ⟨⟨q, rfl, h1, h2⟩, rfl, ?_⟩, fun h => absurd rfl h⟩
  simp only [Slot.closedBy, dispositionOf]
  split <;> exact nofun

theorem closeOk_clearedSlot {n : Nat} {sl : Slot} (h : CloseOk n sl) : CloseOk 0 (clearedSlot sl) := by
  unfold clearedSlot
  split
  next hs => exact .of_other hs nofun nofun (h.none hs nofun nofun)
  next hs => exact .of_other hs nofun nofun (h.none hs nofun nofun)
  all_goals exact closeOk_empty 0 _

theorem Move.keeps_closeLaw {s t : State} (h : Move s t) (hl : LifeLaw s) (hs : CloseLaw s) : CloseLaw t := by
  obtain ⟨hcounter, hslots⟩ := closeLaw_iff.1 hs
  refine closeLaw_iff.2 ?_
  cases h with
  | quiet h =>
    rw [h.closeSeq, h.slots]
    exact ⟨hcounter, hslots⟩
  | reset =>
    refine ⟨Nat.zero_le _, fun i => ?_⟩
    have : State.reset.slots[i] = Slot.empty .clearing [] := by simp [State.reset]
    rw [this]
    exact closeOk_empty _ _
  | retireLot k tag hk hh hc =>
    have hseq : ∀ (is : List (Fin 64)) (s : State), (is.foldl State.retire s).closeSeq = s.closeSeq := by
      intro is
      induction is with
      | nil => exact fun _ => rfl
      | cons i rest ih => exact fun s => (ih (s.retire i)).trans (State.retire_closeSeq s i)
    rw [State.setLot_closeSeq, State.setLot_slots, hseq]
    refine ⟨hcounter, fun i => ?_⟩
    rw [foldl_retire_get]
    split
    exacts [closeOk_empty _ _, hslots i]
  | openNow i o ho hi =>
    exact ⟨hcounter, closeOk_set hslots (.of_other rfl nofun nofun ⟨rfl, rfl, rfl, rfl, rfl⟩)⟩
  | attach i o ho hi hp hc => exact ⟨hcounter, closeOk_set hslots (hslots i)⟩
  | endClearing i rest h =>
    have hi := (hl.clearExactly i).1 (h ▸ List.mem_cons_self)
    unfold State.endClearing
    dsimp only
    split
    · simp only [State.hand, State.setMember_slots, State.setMember_closeSeq]
      exact ⟨hcounter, closeOk_set hslots (.of_other rfl nofun nofun ⟨rfl, rfl, rfl, rfl, rfl⟩)⟩
    · exact ⟨hcounter, closeOk_set hslots (.of_other rfl nofun nofun ((hslots i).none hi nofun nofun))⟩
  | leaveRetirement i =>
    obtain he | ⟨k, r, _, _, ⟨_, he⟩ | ⟨_, he⟩⟩ := s.leaveRetirement_cases i <;> rw [he] <;> exact ⟨hcounter, hslots⟩
  | retire i hi hb =>
    rw [State.retire_closeSeq, retire_slots]
    exact ⟨hcounter, closeOk_set hslots (closeOk_empty _ _)⟩
  | pin i hi hp hn => exact ⟨hcounter, closeOk_set hslots (hslots i)⟩
  | unpin i hi hp => exact ⟨hcounter, closeOk_set hslots (hslots i)⟩
  | releaseWafer i hi =>
    rw [State.setMember_closeSeq, State.setMember_slots]
    refine ⟨hcounter, closeOk_set hslots ⟨fun k => ?_, fun hne => absurd hi hne⟩⟩
    obtain ⟨hq, hy, _⟩ := (hslots i).1 k
    exact ⟨hq, hy, nofun⟩
  | closeWafer i tag hi hb hj hc =>
    exact ⟨hcounter, closeOk_set hslots (.of_other rfl nofun nofun ((hslots i).none hi nofun nofun))⟩
  | endSweep x rest h hk =>
    obtain ⟨l, d, _, _, hset⟩ := endSweep_slots s x rest
    have hseq : (s.endSweep x rest).closeSeq = nextCloseSeq s.closeSeq := by simp [State.endSweep, State.hand]
    have hle : s.closeSeq ≤ nextCloseSeq s.closeSeq := by
      unfold nextCloseSeq
      omega
    have hpos : 1 ≤ nextCloseSeq s.closeSeq := by
      unfold nextCloseSeq
      omega
    rw [hseq, hset]
    exact ⟨Nat.min_le_left _ _, closeOk_set (fun i => (hslots i).mono hle) (closeOk_closedBy _ d hpos le_rfl)⟩
  | reopen c tag i hi hb hlot =>
    obtain ⟨l, _, hset⟩ := reopen_slots c tag i s
    have hseq : (Machine.reopen c tag i s).state.closeSeq = s.closeSeq := by simp [Machine.reopen]
    rw [hseq, hset]
    exact ⟨hcounter, closeOk_set hslots (.of_other rfl nofun nofun ⟨rfl, rfl, rfl, rfl, rfl⟩)⟩
  | digest i => exact ⟨hcounter, closeOk_set hslots (hslots i)⟩
  | endDigest x rest h hk => exact ⟨hcounter, closeOk_set hslots (hslots x.slot)⟩
  | startExport i tag ht hi hb hc =>
    exact ⟨hcounter, closeOk_set hslots ⟨fun _ => (hslots i).1 (.inl hi), fun _ hne => absurd rfl hne⟩⟩
  | endExport x h hp =>
    have hstate : s.slots[x.slot].state = .exporting := (hl.exporting _).2 ⟨x, h, rfl⟩
    exact ⟨hcounter, closeOk_set hslots ⟨fun _ => (hslots x.slot).1 (.inr hstate), fun hne => absurd rfl hne⟩⟩
  | change i w hi hw =>
    obtain ⟨l, _, hset⟩ := settle_slots_marked s i w
    have hwafer : SameWafer s.slots[i] w.slot := hw.sameWafer
    rw [State.settle_closeSeq, hset]
    refine ⟨hcounter, closeOk_set hslots (.of_other (hwafer.state.trans hi) nofun nofun ?_)⟩
    have := (hslots i).none hi nofun nofun
    rw [SameWafer] at hwafer
    rw [hwafer]
    exact this
  | clearAll hc =>
    refine ⟨Nat.zero_le _, fun i => ?_⟩
    have : ((Machine.clearAll s).hand (cancelled s)).slots[i] = clearedSlot s.slots[i] := by
      simp [Machine.clearAll, State.hand]
    rw [this]
    exact closeOk_clearedSlot (hslots i)
  | _ => exact ⟨hcounter, hslots⟩

/-- Settles O60: the laws of digests and of close results go through every move, each with the law of lives. -/
theorem everyStepKeepsTheDigests : Obligations.EveryStepKeepsTheDigests := by
  refine ⟨fun s t hl hs h => ?_, fun s t hl hs h => ?_⟩
  · have hall : LifeLaw t ∧ DigestLaw t := step_keeps (P := fun s => LifeLaw s ∧ DigestLaw s)
      (fun hmove ⟨hl, hs⟩ => ⟨hmove.keeps_lifeLaw hl, hmove.keeps_digestLaw hl hs⟩) ⟨hl, hs⟩ h
    exact hall.2
  · have hall : LifeLaw t ∧ CloseLaw t := step_keeps (P := fun s => LifeLaw s ∧ CloseLaw s)
      (fun hmove ⟨hl, hs⟩ => ⟨hmove.keeps_lifeLaw hl, hmove.keeps_closeLaw hl hs⟩) ⟨hl, hs⟩ h
    exact hall.2

end Sys2Proof.Machine
end

section
/-! PROOFS. The machine as a whole: which of the three ways `exec` takes a command, that each has an outcome, what an
untaken command and an asserted RESET pin leave, and the state after reset. -/

namespace Sys2Proof.Machine

open Sys2Proof.Safety

/-! ### How each command is taken -/

/-- R180: a CL command that the interpreter does not serve is an item of the engine. -/
theorem exec_eq_engineCommand {c : Instr} (hc : c.isCommand = true) (hs : c.selfServed = false) :
    ∃ work : State → Item, exec c = engineCommand c work := by
  cases c
  case ldrcPart1 | ldrcPart2 | rdrc | oplt | cllt | rtlt | lsum | opwf | clwf | rpwf | rtwf | pins | upin | fndw |
      wsum | rdcl | frcl | ufcl | excl | incl | xprt | xstp | dgst | bind | ubnd | rsmb | stmp | rlhdWafer | rlhdLot |
      clra => exact ⟨_, rfl⟩
  case lctlStart | lctlStopDrain | lctlStopForce | lctlRestart | lctlSetMode | lctlSetRate | lsta | asta | stpa |
      rsma => cases hs
  all_goals cases hc

/-- R182: LCTL, LSTA, ASTA, STPA and RSMA are served by the interpreter. -/
theorem exec_eq_serveCommand {c : Instr} (h : c.selfServed = true) :
    ∃ work : State → State × Message, exec c = serveCommand c work := by
  cases c
  case lctlStart | lctlStopDrain | lctlStopForce | lctlRestart | lctlSetMode | lctlSetRate | lsta | asta | stpa |
      rsma => exact ⟨_, rfl⟩
  all_goals cases h

/-- R65: a report is an item of the engine for a tester frame. -/
theorem exec_eq_engineReport {c : Instr} {n : Fin 12} (h : reportLink c = some n) :
    ∃ work : State → Report, exec c = engineReport n c work := by
  cases c
  case tdr | clq | rtp => cases h; exact ⟨_, rfl⟩
  all_goals cases h

theorem engineReport_untaken {n : Fin 12} {c : Instr} {work : State → Report} {s : State}
    (h : ¬ EngineTakesReport n c s) : engineReport n c work s = .next s := by
  refine if_neg fun hframe => h ?_
  obtain ⟨body, hbody, hdecode⟩ := Option.map_eq_some_iff.1 hframe
  exact ⟨body, nextFrame_eq_some.1 hbody, hdecode⟩

theorem engineCommand_next (c : Instr) (work : State → Item) (s : State) : ∃ t, engineCommand c work s = .next t := by
  by_cases h : EngineTakes c s
  exacts [⟨_, engineCommand_taken h⟩, ⟨_, engineCommand_untaken h⟩]

theorem serveCommand_next (c : Instr) (work : State → State × Message) (s : State) :
    ∃ t, serveCommand c work s = .next t := by
  by_cases h : InterpreterServes c s
  exacts [⟨_, serveCommand_taken h⟩, ⟨_, serveCommand_untaken h⟩]

theorem engineReport_next (n : Fin 12) (c : Instr) (work : State → Report) (s : State) :
    ∃ t, engineReport n c work s = .next t := by
  by_cases h : EngineTakesReport n c s
  exacts [⟨_, engineReport_taken h⟩, ⟨_, engineReport_untaken h⟩]

/-! ### Every command has an outcome -/

/-- The events of the pins, the links, the interpreter and the units. -/
theorem exec_event_next {c : Instr} (hc : c.isCommand = false) (hr : reportLink c = none) (s : State) :
    ∃ t, exec c s = .next t := by
  cases c
  case powerOn | resetPinAssert | resetPinRelease => exact ⟨_, rfl⟩
  case byteReceived => simp only [exec, execByteReceived]; split <;> exact ⟨_, rfl⟩
  case interByteTimeout => simp only [exec, execInterByteTimeout]; split <;> exact ⟨_, rfl⟩
  case messageSent => simp only [exec, execMessageSent]; split <;> [(split <;> exact ⟨_, rfl⟩); exact ⟨_, rfl⟩]
  case frameDiscard => simp only [exec, execFrameDiscard]; split <;> exact ⟨_, rfl⟩
  case commandTake => simp only [exec, execCommandTake]; split <;> [(split <;> exact ⟨_, rfl⟩); exact ⟨_, rfl⟩]
  case clearingEnd => simp only [exec, execClearingEnd]; split <;> [(split <;> exact ⟨_, rfl⟩); exact ⟨_, rfl⟩]
  case sweepEnd => simp only [exec, execSweepEnd]; split <;> [(split <;> exact ⟨_, rfl⟩); exact ⟨_, rfl⟩]
  case digestEnd => simp only [exec, execDigestEnd]; split <;> [(split <;> exact ⟨_, rfl⟩); exact ⟨_, rfl⟩]
  case mch => simp only [exec, execMch]; split <;> [(split <;> exact ⟨_, rfl⟩); exact ⟨_, rfl⟩]
  case mnd => simp only [exec, execMnd]; split <;> [(split <;> exact ⟨_, rfl⟩); exact ⟨_, rfl⟩]
  case don => simp only [exec, execDon]; split <;> [(split <;> exact ⟨_, rfl⟩); exact ⟨_, rfl⟩]
  case tdr | clq | rtp => cases hr
  all_goals cases hc

theorem exec_next (c : Instr) (s : State) : ∃ t, exec c s = .next t := by
  cases hc : c.isCommand with
  | true =>
    cases hs : c.selfServed with
    | true =>
      obtain ⟨work, hwork⟩ := exec_eq_serveCommand hs
      rw [hwork]
      exact serveCommand_next c work s
    | false =>
      obtain ⟨work, hwork⟩ := exec_eq_engineCommand hc hs
      rw [hwork]
      exact engineCommand_next c work s
  | false =>
    cases hr : reportLink c with
    | some n =>
      obtain ⟨work, hwork⟩ := exec_eq_engineReport hr
      rw [hwork]
      exact engineReport_next n c work s
    | none => exact exec_event_next hc hr s

/-- Settles O1: the two equations of `step`. -/
theorem stepRunsTheFrontCommand : Obligations.StepRunsTheFrontCommand :=
  ⟨fun c rest s h => by simp only [step, h], fun s h => by simp only [step, h]⟩

/-- Settles O2: every command has an outcome (`exec_next`), and `exec_sound` says that the queue stays. -/
theorem everyCommandAnswersNextState : Obligations.EveryCommandAnswersNextState := fun c s => by
  obtain ⟨t, ht⟩ := exec_next c s
  exact ⟨t, ht, (exec_sound ht).pending⟩

/-- Settles O3: each of the three ways a command is taken leaves the state when the command is not taken. -/
theorem untakenCommandChangesNothing : Obligations.UntakenCommandChangesNothing := by
  refine fun c s => ⟨fun hc hs h => ?_, fun hs h => ?_, fun n hr h => ?_⟩
  · obtain ⟨work, hwork⟩ := exec_eq_engineCommand hc hs
    rw [hwork, engineCommand_untaken h]
  · obtain ⟨work, hwork⟩ := exec_eq_serveCommand hs
    rw [hwork, serveCommand_untaken h]
  · obtain ⟨work, hwork⟩ := exec_eq_engineReport hr
    rw [hwork, engineReport_untaken h]

/-! ### The asserted RESET pin -/

/-- R178: no link, interpreter or unit event happens while the RESET pin is asserted. -/
theorem exec_event_held {c : Instr} (hc : c.isCommand = false) (hr : reportLink c = none) {s : State}
    (hpin : s.resetPin = true) (h1 : c ≠ .powerOn) (h2 : c ≠ .resetPinAssert) (h3 : c ≠ .resetPinRelease) :
    exec c s = .next s := by
  cases c
  case powerOn | resetPinAssert | resetPinRelease => contradiction
  case byteReceived => exact if_pos hpin
  case interByteTimeout => simp [exec, execInterByteTimeout, hpin]
  case messageSent => simp only [exec, execMessageSent, hpin, if_true]; split <;> rfl
  case frameDiscard => simp [exec, execFrameDiscard, State.nextFrame, hpin]
  case commandTake => simp only [exec, execCommandTake, hpin, reduceCtorEq, false_and, if_false]; split <;> rfl
  case clearingEnd => simp only [exec, execClearingEnd, hpin, if_true]; split <;> rfl
  case sweepEnd => simp only [exec, execSweepEnd, hpin, reduceCtorEq, false_and, if_false]; split <;> rfl
  case digestEnd => simp only [exec, execDigestEnd, hpin, reduceCtorEq, false_and, if_false]; split <;> rfl
  case mch => simp only [exec, execMch, hpin, reduceCtorEq, false_and, if_false]; split <;> rfl
  case mnd => simp only [exec, execMnd, hpin, reduceCtorEq, false_and, if_false]; split <;> rfl
  case don => simp only [exec, execDon, hpin, reduceCtorEq, false_and, if_false]; split <;> rfl
  case tdr | clq | rtp => cases hr
  all_goals cases hc

theorem exec_held {c : Instr} {s : State} (hpin : s.resetPin = true) (h1 : c ≠ .powerOn) (h2 : c ≠ .resetPinAssert)
    (h3 : c ≠ .resetPinRelease) : exec c s = .next s := by
  have hheld : s.resetPin ≠ false := ne_of_eq_of_ne hpin nofun
  obtain ⟨hengine, hserve, hreport⟩ := untakenCommandChangesNothing c s
  cases hs : c.selfServed with
  | true => exact hserve hs fun k => hheld k.1
  | false =>
    cases hc : c.isCommand with
    | true => exact hengine hc hs fun k => hheld k.1
    | false =>
      cases hr : reportLink c with
      | some n => exact hreport n hr fun ⟨_, k, _⟩ => hheld k.1
      | none => exact exec_event_held hc hr hpin h1 h2 h3

/-- Settles O4: R178 command by command, and the ready line of R169 read off `State.ready`. -/
theorem assertedResetPinHoldsThePart : Obligations.AssertedResetPinHoldsThePart := by
  refine ⟨fun c s hpin h1 h2 h3 => exec_held hpin h1 h2 h3, fun n s hpin => ?_, fun n s hpin => ?_⟩
  · simp [State.ready, hpin]
  · simp only [State.ready, hpin, Bool.not_false, Bool.true_and, Bool.and_eq_true, Bool.or_eq_true, beq_iff_eq,
      decide_eq_true_eq]
    exact Iff.rfl

/-! ### Reset -/

/-- R178: the links after reset. -/
theorem reset_links_get (n : Fin 13) :
    State.reset.links[n] = if n = cl then Link.controlReset else Link.testerReset := by
  by_cases hn : n = cl
  · subst hn; rfl
  · have : 12 ≠ n.val := fun h => hn (Fin.ext h.symm)
    simp [State.reset, this, hn]

theorem tl_ne_cl (n : Fin 12) : tl n ≠ cl := (Fin.castSucc_lt_last n).ne

theorem reset_links_tl (n : Fin 12) : State.reset.links[tl n] = Link.testerReset := by
  rw [reset_links_get, if_neg (tl_ne_cl n)]

/-- Settles O9: every record of `State.reset` is the same at each number. -/
theorem resetLeavesTheTables : Obligations.ResetLeavesTheTables := by
  refine ⟨fun r => ?_, rfl, fun i => ?_, rfl, rfl, rfl, rfl, fun n a => ?_, fun n k => ?_, rfl, fun k => ?_, rfl, rfl,
    reset_links_tl, rfl, fun n => ?_, rfl, rfl, rfl, rfl, rfl⟩
  · simp [State.reset, Recipe.reset, Scalars.reset, BinEntry.reset]
  · simp [State.reset, Slot.empty]
  · simp [State.reset, Tester.reset, Binding.unbound]
  · simp [State.reset, Tester.reset, SiteEntry.reset]
  · simp [State.reset, Lot.free]
  · simp only [State.ready, reset_links_tl]
    rfl

/-- Settles O10: the four cases of the pin at power-on and at the release. -/
theorem powerOnAndResetPin : Obligations.PowerOnAndResetPin := by
  refine fun s => ⟨fun hpin => ?_, rfl, fun hpin => ?_⟩
  · simp [exec, execPowerOn, execResetPinRelease, hpin, State.afterReset]
  · simp [exec, execPowerOn, execResetPinRelease, hpin, State.afterReset, State.heldInReset]

theorem reset_slots_get (i : Fin 64) : State.reset.slots[i] = Slot.empty .clearing [] := by simp [State.reset]

theorem reset_lots_get (k : Fin 16) : State.reset.lots[k] = Lot.free := by simp [State.reset]

theorem recordsLaw_reset : RecordsLaw State.reset where
  recipes r := by
    have : State.reset.recipes[r] = Recipe.reset := by simp [State.reset]
    exact this ▸ recipeLaw_reset
  staging := nofun
  memory i := reset_slots_get i ▸ lawfulCells_nil.1
  cells i k := reset_slots_get i ▸ lawfulCells_nil.2 k

theorem tallyLaw_reset : TallyLaw State.reset where
  slots i h := absurd (reset_not_inUse i) (ne_of_eq_of_ne h nofun)
  empty i _ := by
    rw [reset_slots_get]
    exact ⟨rfl, rfl⟩
  lots k h := absurd (congrArg Lot.state (reset_lots_get k)) h

theorem digestLaw_reset : DigestLaw State.reset where
  closed i h := by
    rw [reset_slots_get] at h
    obtain h | h := h <;> cases h
  sweeps := nofun
  transfer := nofun

theorem mapLaw_reset : MapLaw State.reset where
  bins i h := absurd (reset_not_inUse i) (ne_of_eq_of_ne h nofun)
  attempts i h := absurd (reset_not_inUse i) (ne_of_eq_of_ne h nofun)

theorem limitStates_clear_active : LimitStates.clear.active = false := by simp [LimitStates.clear, LimitStates.active]

theorem outstanding_reset : outstanding State.reset = 0 := by
  have hopens : ∀ i : Fin 64, State.reset.slots[i].pendingOpen = none := fun i => by rw [reset_slots_get]; rfl
  have hlots : ∀ k : Fin 16, State.reset.lots[k].state = .free := fun k => by rw [reset_lots_get]; rfl
  simp only [outstanding, hopens, hlots]
  simp [State.reset]

theorem listsLaw_reset : ListsLaw State.reset where
  directory k w i := by
    rw [reset_slots_get]
    exact iff_of_false List.not_mem_nil nofun
  directoryOnce := .nil
  members k := by
    rw [reset_lots_get]
    exact Nat.zero_le _
  runs n a i h := by simp [State.reset, Tester.reset, Binding.unbound] at h
  slotMarks i h := by
    rw [reset_slots_get] at h
    exact absurd (limitStates_clear_active.symm.trans h) nofun
  lotMarks k h := by
    rw [reset_lots_get] at h
    exact absurd (limitStates_clear_active.symm.trans h) nofun
  completions := by
    rw [outstanding_reset]
    exact Nat.zero_le _

theorem closeLaw_reset : CloseLaw State.reset := by
  refine closeLaw_iff.2 ⟨Nat.zero_le _, fun i => ?_⟩
  rw [reset_slots_get]
  exact closeOk_empty _ _

/-- Settles O55: the eight laws, one by one, on records that are all at their reset values. -/
theorem lawsHoldAtReset : Obligations.LawsHoldAtReset :=
  ⟨linksLaw_reset, recordsLaw_reset, lifeLaw_reset, tallyLaw_reset, digestLaw_reset, mapLaw_reset, listsLaw_reset,
    closeLaw_reset⟩

end Sys2Proof.Machine
end

section
/-! PROOFS. The link layer's receiver: alerts and error events, one byte at a time, and a whole frame. -/

namespace Sys2Proof.Machine

open Sys2Proof.Safety

/-! ### Messages, alerts and error events (R174, R177, R187) -/

theorem Link.push_eq (m : Message) (l : Link) : l.push m = { l with
    outbound := l.outbound ++ [m], lineRate := if l.outbound = [] then some l.rate else l.lineRate } := by
  simp only [Link.push, List.isEmpty_iff]

/-- R187: the room an alert asks for, counted in messages queued. -/
theorem State.offer_eq (s : State) (held : Nat) (a : Alert) : s.offer held a =
    if s.links[cl].outbound.length + held + 8 ≤ 32 then s.place cl (.alr a) else { s with dropped := true } := by
  have hroom : 8 ≤ s.room cl held ↔ s.links[cl].outbound.length + held + 8 ≤ 32 := by
    simp only [State.room, outCap, if_true]
    omega
  simp only [State.offer, hroom]

theorem Link.fail_eq (e : LinkError) (l : Link) : l.fail e = { l with
    lastError := e
    bad := if e = .overrun then l.bad else min 255 (l.bad + 1)
    overruns := if e = .overrun then min 255 (l.overruns + 1) else l.overruns } := by
  unfold Link.fail
  split <;> rfl

/-- Settles O14: each of the four operations as one equation. -/
theorem alertsAndErrorEvents : Obligations.AlertsAndErrorEvents := by
  refine ⟨fun s n m => ?_, State.offer_eq, fun s n e => ?_, fun s held a rest => ⟨rfl, rfl⟩⟩
  · rw [State.place, Link.push_eq]
    rfl
  · rw [State.linkError, Link.fail_eq]

/-! ### The receiver, byte by byte (R165 to R168) -/

/-- R165, R171: where a link is left when its frame in assembly is lost. -/
theorem drained_afterFrame (l : Link) : { l with receiver := l.afterFrame }.drained = lostFrame l := by
  unfold Link.drained lostFrame
  by_cases hd : l.state = .draining ∧ l.holding = []
  · have hidle : l.afterFrame = .idle := if_pos hd.1
    simp only [hidle, hd.1, hd.2, and_self, if_true, restingReceiver]
  · have hnot : ¬ (l.state = .draining ∧ l.afterFrame = .idle ∧ l.holding = []) := fun h => hd ⟨h.1, h.2.2⟩
    simp only [hnot, hd, if_false]
    rfl

theorem State.receiverError_afterFrame (s : State) (n : Fin 13) (l : Link) (e : LinkError) :
    s.receiverError n { l with receiver := l.afterFrame } e = (s.setLink n (lostFrame l)).linkError n e := by
  rw [State.receiverError, State.setDrained, drained_afterFrame]

theorem exec_byteReceived {n : Fin 13} {b : Byte} {s : State} (h : s.resetPin = false) :
    exec (.byteReceived n b) s = .next (s.receive n b) := if_neg (by simp [h])

/-- R167: in HUNT and IDLE the inter-byte timer does not run. -/
theorem exec_interByteTimeout_idle {n : Fin 13} {s : State} (h : s.links[n].receiver.inFrame = false) :
    exec (.interByteTimeout n) s = .next s :=
  if_neg fun k => Bool.false_ne_true (h.symm.trans k.2)

section Receive

variable {s : State} {n : Fin 13} {b : Byte}

theorem State.receive_idle (h : s.links[n].receiver = .idle) : s.receive n b = s := by
  simp only [State.receive, h]

theorem State.receive_hunt {r : Bool} (h : s.links[n].receiver = .hunt r) : s.receive n b =
    if b = 0xA5 then s.setLink n { s.links[n] with receiver := .length }
    else if r = true then s
    else (s.setLink n { s.links[n] with receiver := .hunt true }).linkError n .framing := by
  simp only [State.receive, h]

theorem State.receive_length (h : s.links[n].receiver = .length) : s.receive n b =
    if 1 ≤ b.toNat ∧ b.toNat ≤ 200 then s.setLink n { s.links[n] with receiver := .body b [] }
    else (s.setLink n (lostFrame s.links[n])).linkError n .length := by
  simp only [State.receive, h, State.receiverError_afterFrame]

theorem State.receive_body {len : Byte} {got : List Byte} (h : s.links[n].receiver = .body len got) : s.receive n b =
    if got.length + 1 < len.toNat then s.setLink n { s.links[n] with receiver := .body len (got ++ [b]) }
    else s.setLink n { s.links[n] with receiver := .check len (got ++ [b]) none } := by
  simp only [State.receive, h, List.length_append, List.length_singleton]

theorem State.receive_check {len : Byte} {got : List Byte} (h : s.links[n].receiver = .check len got none) :
    s.receive n b = s.setLink n { s.links[n] with receiver := .check len got (some b) } := by
  simp only [State.receive, h]

/-- R168: the second check byte. -/
theorem State.receive_last {len first : Byte} {body : List Byte}
    (h : s.links[n].receiver = .check len body (some first)) : s.receive n b =
      if first ++ b ≠ crc16 (len :: body) then (s.setLink n (lostFrame s.links[n])).linkError n .crc
      else if s.links[n].holding.length < holdCap n then
        s.setLink n { s.links[n] with
          receiver := restingReceiver s.links[n], holding := s.links[n].holding ++ [body]
          good := min 65535 (s.links[n].good + 1) }
      else (s.setLink n (lostFrame s.links[n])).linkError n .overrun := by
  have hheld : ∀ l : Link, l.holding ++ [body] ≠ [] := fun l => List.append_ne_nil_of_right_ne_nil _ nofun
  simp only [State.receive, h, State.frameComplete, State.receiverError_afterFrame, State.setDrained, Link.drained,
    hheld, and_false, if_false]
  rfl

end Receive

/-- Settles O11: one equation of `State.receive` per state of the receiver. -/
theorem receiverHandlesEachByte : Obligations.ReceiverHandlesEachByte := by
  refine fun n b s hpin => ⟨fun h => ⟨?_, ?_⟩, fun r h => ⟨?_, ?_⟩, fun h => ?_, fun len got h => ?_,
    fun len got h => ?_, fun h => ?_⟩
  · rw [exec_byteReceived hpin, State.receive_idle h]
  · exact exec_interByteTimeout_idle (by rw [h]; rfl)
  · exact exec_interByteTimeout_idle (by rw [h]; rfl)
  · rw [exec_byteReceived hpin, State.receive_hunt h]
  · rw [exec_byteReceived hpin, State.receive_length h]
  · rw [exec_byteReceived hpin, State.receive_body h]
  · rw [exec_byteReceived hpin, State.receive_check h]
  · have htimer : exec (.interByteTimeout n) s =
        .next (s.receiverError n { s.links[n] with receiver := s.links[n].afterFrame } .timeout) := if_pos ⟨hpin, h⟩
    rw [htimer, State.receiverError_afterFrame]

/-- Settles O12: R168 as `State.receive_last` says it. -/
theorem secondCheckByteCompletesTheFrame : Obligations.SecondCheckByteCompletesTheFrame := by
  intro n b first len body s hpin h
  rw [exec_byteReceived hpin, State.receive_last h]
  rfl

/-! ### A whole frame (R163, R164) -/

theorem word16_hiByte_loByte (w : Word16) : hiByte w ++ loByte w = w := by
  rw [hiByte, loByte, BitVec.extractLsb'_append_extractLsb'_eq_extractLsb' (by rfl)]
  simp

theorem setLink_setLink (s : State) (n : Fin 13) (l l' : Link) : (s.setLink n l).setLink n l' = s.setLink n l' := by
  simp [State.setLink]

theorem setLink_links_self (s : State) (n : Fin 13) (l : Link) : (s.setLink n l).links[n] = l := by simp

theorem receiveAll_cons {n : Fin 13} {b : Byte} {bs : List Byte} {s : State} (h : s.resetPin = false) :
    receiveAll n (b :: bs) s = receiveAll n bs (s.receive n b) := by
  rw [receiveAll, exec_byteReceived h]

theorem receiveAll_setLink_cons {n : Fin 13} {b : Byte} {bs : List Byte} {s : State} (l : Link)
    (h : s.resetPin = false) : receiveAll n (b :: bs) (s.setLink n l) =
      receiveAll n bs ((s.setLink n l).receive n b) := receiveAll_cons h

/-- R165, BODY: the body bytes still to come are collected, and the receiver goes on to the check. -/
theorem receiveAll_body {n : Fin 13} {len : Byte} {rest bs : List Byte} (hrest : rest ≠ []) {got : List Byte}
    {s : State} (hpin : s.resetPin = false) (h : s.links[n].receiver = .body len got)
    (hlen : got.length + rest.length = len.toNat) : receiveAll n (rest ++ bs) s =
      receiveAll n bs (s.setLink n { s.links[n] with receiver := .check len (got ++ rest) none }) := by
  induction rest generalizing got s with
  | nil => exact absurd rfl hrest
  | cons b rest ih =>
    rw [List.cons_append, receiveAll_cons hpin, State.receive_body h]
    rw [List.length_cons] at hlen
    cases rest with
    | nil =>
      rw [if_neg (by simp only [List.length_nil] at hlen; omega)]
      rfl
    | cons c rest =>
      rw [if_pos (by rw [List.length_cons] at hlen; omega), ih nofun (got := got ++ [b])]
      · rw [setLink_setLink, setLink_links_self, List.append_assoc, List.singleton_append]
      · exact hpin
      · rw [setLink_links_self]
      · rw [List.length_append, List.length_singleton]
        omega

/-- Settles O8: start marker, length, body and the two check bytes, each by its equation of `State.receive`. -/
theorem frameBytesDeliverTheBody : Obligations.FrameBytesDeliverTheBody := by
  intro n body r s hpin hpos hmax hhunt hstate hroom
  have hlen : (BitVec.ofNat 8 body.length).toNat = body.length := by
    rw [BitVec.toNat_ofNat]
    omega
  have hbody : body ≠ [] := List.ne_nil_of_length_pos hpos
  have hrest : restingReceiver s.links[n] = .hunt false := if_neg hstate
  have hframe : frame body = 0xA5 :: BitVec.ofNat 8 body.length :: (body ++
      [hiByte (crc16 (BitVec.ofNat 8 body.length :: body)), loByte (crc16 (BitVec.ofNat 8 body.length :: body))]) := rfl
  rw [hframe, receiveAll_cons hpin, State.receive_hunt hhunt, if_pos rfl, receiveAll_setLink_cons _ hpin,
    State.receive_length (by rw [setLink_links_self]), if_pos (by omega), setLink_setLink, setLink_links_self,
    receiveAll_body hbody (got := []) (by exact hpin) (by rw [setLink_links_self]) (by rw [List.length_nil]; omega),
    setLink_setLink, setLink_links_self, receiveAll_setLink_cons _ hpin,
    State.receive_check (by rw [setLink_links_self]), setLink_setLink, setLink_links_self,
    receiveAll_setLink_cons _ hpin, State.receive_last (by rw [setLink_links_self]), setLink_setLink,
    setLink_links_self, List.nil_append, if_neg (not_not.2 (word16_hiByte_loByte _)), if_pos hroom]
  simp only [restingReceiver] at hrest ⊢
  rw [hrest, setLink_setLink]
  rfl

end Sys2Proof.Machine
end

section
/-! PROOFS. The transmitter and the layouts of what the part sends: flag bytes bit by bit, the body of every message and
the end of a message on the line. -/

namespace Sys2Proof.Machine

open Sys2Proof.Safety

/-! ### Flag bytes (R193) -/

/-- Digits gathered most significant first: digit `j` of `n` stands at bit `n - 1 - j`. -/
theorem testBit_gather (f : Nat → Bool) {n j : Nat} (h : j < n) :
    ((List.range n).foldl (fun m k => 2 * m + (f k).toNat) 0).testBit (n - 1 - j) = f j := by
  induction n with
  | zero => exact absurd h (Nat.not_lt_zero j)
  | succ n ih =>
    rw [List.range_succ, List.foldl_append, List.foldl_cons, List.foldl_nil]
    generalize hx : (List.range n).foldl (fun m k => 2 * m + (f k).toNat) 0 = x
    rw [hx] at ih
    obtain rfl | hj : j = n ∨ j < n := by omega
    · rw [Nat.add_sub_cancel, Nat.sub_self, Nat.testBit_zero]
      cases f j <;> simp
    · have hshift : (2 * x + (f n).toNat) / 2 = x := by
        have := (f n).toNat_le
        omega
      rw [show n + 1 - 1 - j = n - 1 - j + 1 by omega, Nat.testBit_succ, hshift]
      exact ih hj

theorem flagByte_getLsbD (flags : List Bool) {j : Nat} (h : j < 8) :
    (flagByte flags).getLsbD (7 - j) = flags.getD j false := by
  have hbit : 7 - j < 8 := by omega
  rw [flagByte, BitVec.getLsbD_ofNat, decide_eq_true hbit, Bool.true_and]
  exact testBit_gather (fun k => flags.getD k false) h

theorem flagBytes_length (flags : List Bool) : (flagBytes flags).length = (flags.length + 7) / 8 := by
  simp [flagBytes]

theorem flagBytes_getLsbD (flags : List Bool) {k : Nat} (h : k < 8 * ((flags.length + 7) / 8)) :
    ((flagBytes flags).getD (k / 8) 0).getLsbD (7 - k % 8) = flags.getD k false := by
  have hbyte : k / 8 < (flags.length + 7) / 8 := by omega
  have hget : (flagBytes flags).getD (k / 8) 0 = flagByte ((flags.drop (8 * (k / 8))).take 8) := by
    simp [flagBytes, hbyte]
  have hmod : k % 8 < 8 := Nat.mod_lt k (by omega)
  have hk : 8 * (k / 8) + k % 8 = k := Nat.div_add_mod k 8
  rw [hget, flagByte_getLsbD _ hmod]
  simp [hmod, hk]

theorem binSetBytes_getLsbD (bins : Vector Breach 64) (b : Fin 64) :
    ((binSetBytes bins).getD (b.val / 8) 0).getLsbD (7 - b.val % 8) = true ↔ b ≠ 0 ∧ bins[b] = .breach := by
  have hbyte : b.val / 8 < 8 := by omega
  have hmod : b.val % 8 < 8 := Nat.mod_lt _ (by omega)
  have hb : 8 * (b.val / 8) + b.val % 8 = b.val := Nat.div_add_mod _ 8
  have hget : (binSetBytes bins).getD (b.val / 8) 0 = flagByte ((List.range 8).map fun j =>
      8 * (b.val / 8) + j != 0 && bins.toList.getD (8 * (b.val / 8) + j) .clear == .breach) := by
    simp [binSetBytes, hbyte]
  have hzero : b.val = 0 ↔ b = 0 := Fin.val_eq_zero_iff
  rw [hget, flagByte_getLsbD _ hmod]
  simp [hmod, hb, hzero]

/-! ### The transmitter (R177) -/

theorem exec_messageSent {n : Fin 13} {m : Message} {rest : List Message} {s : State} (hpin : s.resetPin = false)
    (h : s.links[n].outbound = m :: rest) : exec (.messageSent n) s = .next { s with
      links := s.links.set n { s.links[n] with
        outbound := rest, lineRate := if rest = [] then none else some s.links[n].rate }
      lastSent := some (n, frame m.body) } := by
  simp only [exec, execMessageSent, h, hpin, Link.sent, List.tail_cons, List.isEmpty_iff, State.setLink]
  rfl

/-- Settles O13: the end of a message, the layout of each body, the code tables, and the flag bytes bit by bit. -/
theorem messageSentFreesItsEntry : Obligations.MessageSentFreesItsEntry := by
  refine ⟨fun n m rest s hpin h => exec_messageSent hpin h, fun n s h => ?_, fun _ => rfl, fun _ _ _ _ => rfl,
    fun _ _ _ _ retest => ?_, fun _ _ _ next _ => ?_, fun _ _ _ _ => rfl, fun _ _ _ => rfl, fun _ _ _ _ => rfl,
    fun _ _ _ _ _ _ _ _ => rfl, fun _ _ _ _ _ _ _ => ?_, fun _ _ _ _ _ => rfl, fun _ _ => rfl, fun _ _ _ => rfl,
    fun _ _ _ _ => rfl, ?_, fun _ _ _ _ => rfl,
    fun flags => ⟨flagBytes_length flags, fun _ => flagBytes_getLsbD flags⟩,
    fun bins => ⟨by simp [binSetBytes], binSetBytes_getLsbD bins⟩⟩
  · simp only [exec, execMessageSent, h]
  · cases retest <;> rfl
  · cases next <;> rfl
  · simp [Message.body, Alert.body, be1, limitCode]
  · exact ⟨rfl, rfl, rfl, rfl, rfl, rfl, rfl, rfl, rfl, rfl, rfl, rfl, rfl, rfl, rfl, rfl, rfl, rfl⟩

end Sys2Proof.Machine
end

section
/-! PROOFS. The commands the interpreter serves on a link: LCTL and LSTA, and the taking of commands and placing of
completions. -/

namespace Sys2Proof.Machine

open Sys2Proof.Safety

/-! ### LCTL on a tester link (R172, R173) -/

section Lctl

variable {c : Instr} {tag link : Byte} {s : State} {n : Fin 12}

theorem lctlWork_outOfRange {work : Fin 12 → State → State × Message} (h : 12 ≤ link.toNat) :
    lctlWork c tag link work s = refuseServed c tag .badField s := by
  simp only [lctlWork, testerOf_eq_none h]

theorem lctlWork_named {work : Fin 12 → State → State × Message} (h : link.toNat = n.val) :
    lctlWork c tag link work s = work n s := by
  simp only [lctlWork, testerOf_eq_some h]

/-- Work that refuses on every link refuses whatever the link byte says. -/
theorem lctlWork_of_work_refuses {work : Fin 12 → State → State × Message}
    (h : ∀ n, work n s = refuseServed c tag .badField s) :
    lctlWork c tag link work s = refuseServed c tag .badField s := by
  unfold lctlWork
  split
  exacts [rfl, h _]

/-- A service that comes to a refusal is the interpreter's refusal. -/
theorem servesRefusal_of_work {work : State → State × Message} {status : Status}
    (hexec : exec c s = serveCommand c work s) (h : InterpreterServes c s)
    (hwork : work s = refuseServed c tag status s) : ServesRefusal c tag status s := by
  rw [ServesRefusal, hexec, serveCommand_taken h, hwork, refuseServed]

/-- An action on the link's state, taken (R172). -/
theorem serveCommand_lctlAct {act : Link → Link} {discarded : Link → Nat} (h : InterpreterServes c s)
    (hn : link.toNat = n.val) : serveCommand c (lctlWork c tag link (lctlAct c tag act discarded)) s =
      .next (served (.rsp tag c.code .ok [(act s.links[tl n]).state.code, BitVec.ofNat 8 (discarded s.links[tl n])])
        (s.setLink (tl n) (act s.links[tl n]))) := by
  rw [serveCommand_taken h, lctlWork_named hn]
  rfl

end Lctl

theorem setLink_self (s : State) (n : Fin 13) : s.setLink n s.links[n] = s := by
  simp [State.setLink]

/-! #### The link after each action -/

theorem Link.start_code (l : Link) : l.start.state.code = 1 := by
  unfold Link.start
  split
  next h => rw [h]; rfl
  next => rfl
  next => rfl

/-- R171: a link that drains with its receiver at rest is STOPPED at once when it holds no frame. -/
theorem Link.drained_idle {l : Link} (hs : l.state = .draining) (hr : l.receiver = .idle) :
    l.drained = { l with state := if l.holding = [] then .stopped else .draining } := by
  simp only [Link.drained, hs, hr, true_and]
  split
  · rfl
  · rw [← hs, ← hr]

theorem Link.stopDrain_length {l : Link} (hs : l.state = .running) (hr : l.receiver = .length) :
    l.stopDrain = { l with
      state := if l.holding = [] then .stopped else .draining, receiver := .idle
      discards := min 255 (l.discards + 1) } := by
  simp only [Link.stopDrain, hs, hr]
  exact Link.drained_idle rfl rfl

theorem Link.stopDrain_resting {l : Link} (hs : l.state = .running)
    (hr : l.receiver = .idle ∨ ∃ r, l.receiver = .hunt r) : l.stopDrain = { l with
      state := if l.holding = [] then .stopped else .draining, receiver := .idle } := by
  obtain hr | ⟨r, hr⟩ := hr <;> simp only [Link.stopDrain, hs, hr] <;>
    exact Link.drained_idle rfl rfl

/-- R172: a frame in BODY or CHECK goes on. -/
theorem Link.stopDrain_inFrame {l : Link} (hs : l.state = .running) (hf : l.receiver.inFrame = true)
    (hr : l.receiver ≠ .length) : l.stopDrain = { l with state := .draining } := by
  cases hl : l.receiver with
  | idle | hunt r => rw [hl] at hf; cases hf
  | length => exact absurd hl hr
  | body len got | check len got first => simp [Link.stopDrain, hs, hl, Link.drained]

theorem Link.stopDrain_of_not_running {l : Link} (h : l.state ≠ .running) : l.stopDrain = l := by
  unfold Link.stopDrain
  split
  exacts [absurd (by assumption) h, rfl, rfl]

theorem Link.stopDrainDiscards_length {l : Link} (hs : l.state = .running) (hr : l.receiver = .length) :
    l.stopDrainDiscards = 1 := if_pos ⟨hs, hr⟩

theorem Link.stopDrainDiscards_of_not {l : Link} (h : l.state ≠ .running ∨ l.receiver ≠ .length) :
    l.stopDrainDiscards = 0 := if_neg fun ⟨h1, h2⟩ => h.elim (· h1) (· h2)

theorem Link.discardable_eq (l : Link) :
    l.discardable = (if l.receiver.inFrame = true then 1 else 0) + l.holding.length := by
  cases h : l.receiver.inFrame <;> simp [Link.discardable, h]

theorem Link.discardAll_eq (l : Link) : l.discardAll = { l with
    state := .stopped, receiver := .idle, holding := []
    discards := min 255 (l.discards + ((if l.receiver.inFrame = true then 1 else 0) + l.holding.length)) } := by
  rw [← Link.discardable_eq]
  rfl

/-! #### Start, stop-drain and stop-force (R172) -/

theorem exec_lctlStart {tag link action value : Byte} {s : State} {n : Fin 12}
    (h : InterpreterServes (.lctlStart tag link action value) s) (hn : link.toNat = n.val) (ha : action.toNat = 0) :
    exec (.lctlStart tag link action value) s =
      .next (served (.rsp tag 0x2E .ok [1, 0]) (s.setLink (tl n) s.links[tl n].start)) := by
  have hok : lctlActionOk action = true := by simp [lctlActionOk, ha]
  have hserve := serveCommand_lctlAct (tag := tag) (act := Link.start) (discarded := fun _ => 0) h hn
  rw [Link.start_code] at hserve
  simp only [exec, execLctlStart, hok, if_true]
  exact hserve

theorem exec_lctlStopDrain {tag link value : Byte} {s : State} {n : Fin 12}
    (h : InterpreterServes (.lctlStopDrain tag link value) s) (hn : link.toNat = n.val) :
    exec (.lctlStopDrain tag link value) s = .next (served (.rsp tag 0x2E .ok
      [s.links[tl n].stopDrain.state.code, BitVec.ofNat 8 s.links[tl n].stopDrainDiscards])
      (s.setLink (tl n) s.links[tl n].stopDrain)) := serveCommand_lctlAct h hn

theorem exec_lctlStopForce {tag link value : Byte} {s : State} {n : Fin 12}
    (h : InterpreterServes (.lctlStopForce tag link value) s) (hn : link.toNat = n.val) :
    exec (.lctlStopForce tag link value) s = .next (served (.rsp tag 0x2E .ok
      [s.links[tl n].stopForce.state.code, BitVec.ofNat 8 s.links[tl n].stopForceDiscards])
      (s.setLink (tl n) s.links[tl n].stopForce)) := serveCommand_lctlAct h hn

/-- Settles O15: each action is one case of `Link.start`, `Link.stopDrain` or `Link.stopForce`. -/
theorem lctlStartAndStop : Obligations.LctlStartAndStop := by
  refine ⟨fun tag link action value s h => ⟨fun hbad => ?_, fun n hn ha => ?_⟩,
    fun tag link value s h => ⟨fun hbad => servesRefusal_of_work rfl h (lctlWork_outOfRange hbad), fun n hn => ?_⟩,
    fun tag link value s h => ⟨fun hbad => servesRefusal_of_work rfl h (lctlWork_outOfRange hbad), fun n hn => ?_⟩⟩
  · simp only [ServesRefusal, exec, execLctlStart]
    rw [serveCommand_taken h]
    split
    next hok =>
      have hle : action.toNat ≤ 5 := by simpa [lctlActionOk] using hok
      rw [lctlWork_outOfRange (hbad.resolve_right (not_lt.2 hle))]
      rfl
    next => rfl
  · rw [exec_lctlStart h hn ha]
    cases hs : s.links[tl n].state with
    | running => simp only [Link.start, hs, setLink_self]
    | stopped => simp only [Link.start, hs]
    | draining => simp only [Link.start, hs]
  · rw [exec_lctlStopDrain h hn]
    cases hs : s.links[tl n].state with
    | stopped | draining =>
      rw [Link.stopDrain_of_not_running (by rw [hs]; nofun), Link.stopDrainDiscards_of_not (.inl (by rw [hs]; nofun)),
        setLink_self]
      simp only [hs]
      rfl
    | running =>
      cases hr : s.links[tl n].receiver with
      | idle =>
        rw [Link.stopDrain_resting hs (.inl hr), Link.stopDrainDiscards_of_not (.inr (by rw [hr]; nofun))]
        simp only [hs, hr]
        rfl
      | hunt r =>
        rw [Link.stopDrain_resting hs (.inr ⟨r, hr⟩), Link.stopDrainDiscards_of_not (.inr (by rw [hr]; nofun))]
        simp only [hs, hr]
        rfl
      | length =>
        rw [Link.stopDrain_length hs hr, Link.stopDrainDiscards_length hs hr]
        simp only [hs, hr]
        rfl
      | body len got | check len got first =>
        rw [Link.stopDrain_inFrame hs (by rw [hr]; rfl) (by rw [hr]; nofun),
          Link.stopDrainDiscards_of_not (.inr (by rw [hr]; nofun))]
        simp only [hs, hr]
        rfl
  · rw [exec_lctlStopForce h hn, Link.stopForce, Link.stopForceDiscards, Link.discardAll_eq, Link.discardable_eq]
    by_cases hs : s.links[tl n].state = .stopped
    · simp only [if_pos hs, setLink_self]
      rw [hs]
      rfl
    · simp only [if_neg hs]
      rfl

/-! #### Restart, set mode and set rate (R173) -/

theorem Link.restart_eq (l : Link) : l.restart = { l with
    state := .running, receiver := .hunt false, holding := [], lastError := .none
    good := 0, bad := 0, overruns := 0, discards := 0 } := rfl

theorem modeOf_of_le {b : Byte} (h : b.toNat ≤ 1) : modeOf b = some (if b.toNat = 0 then .paced else .free) := by
  obtain h | h : b.toNat = 0 ∨ b.toNat = 1 := by omega
  · simp [modeOf, h]
  · simp [modeOf, h]

theorem modeOf_of_lt {b : Byte} (h : 1 < b.toNat) : modeOf b = none := by
  unfold modeOf
  split <;> [omega; omega; rfl]

theorem rateOf_code (r : Rate) : rateOf r.code = some r := by cases r <;> rfl

theorem rateOf_eq_none {b : Byte} (h : b.toNat ≠ 1 ∧ b.toNat ≠ 4 ∧ b.toNat ≠ 12) : rateOf b = none := by
  unfold rateOf
  split <;> [omega; omega; omega; rfl]

/-- Settles O16: restart as one update, and the value bytes of set mode and set rate. -/
theorem lctlRestartModeAndRate : Obligations.LctlRestartModeAndRate := by
  refine ⟨fun tag link value s h => ⟨fun hbad => servesRefusal_of_work rfl h (lctlWork_outOfRange hbad),
      fun n hn => ?_⟩, fun tag link value s h => ⟨fun hbad => servesRefusal_of_work rfl h ?_, fun n hn hv => ?_⟩,
    fun tag link value s h => ⟨fun hbad => servesRefusal_of_work rfl h ?_, fun n r hn hv => ?_⟩⟩
  · have hserve := serveCommand_lctlAct (tag := tag) (act := Link.restart) (discarded := Link.discardable) h hn
    rw [Link.restart_eq, Link.discardable_eq] at hserve
    exact hserve
  · obtain hlink | hvalue := hbad
    · exact lctlWork_outOfRange hlink
    · exact lctlWork_of_work_refuses fun n => by simp only [setModeWork, modeOf_of_lt hvalue]
  · refine (serveCommand_taken h).trans ?_
    simp only [lctlWork_named hn, setModeWork, modeOf_of_le hv, okServed]
    rfl
  · obtain hlink | hvalue := hbad
    · exact lctlWork_outOfRange hlink
    · exact lctlWork_of_work_refuses fun n => by simp only [setRateWork, rateOf_eq_none hvalue]
  · refine (serveCommand_taken h).trans ?_
    subst hv
    simp only [lctlWork_named hn, setRateWork, rateOf_code]
    split <;> rfl

/-! ### LSTA (R176) -/

theorem linkOf_eq_some {b : Byte} {n : Fin 13} (h : b.toNat = n.val) : linkOf b = some n := by simp [linkOf, h]

theorem linkOf_eq_none {b : Byte} (h : 13 ≤ b.toNat) : linkOf b = none := dif_neg (by omega)

/-- R176: only the answer to CL's own status fills an entry of the queue it counts. -/
theorem lstaFields_eq (n : Fin 13) (l : Link) : lstaFields n l =
    [l.state.code, l.mode.code, l.rate.code, l.receiver.code] ++
      be1 l.holding.length ++ be1 (if n = 12 then l.outbound.length + 1 else l.outbound.length) ++
      [l.lastError.code] ++ be2 l.good ++ be1 l.bad ++ be1 l.overruns ++ be1 l.discards := by
  unfold lstaFields cl
  split <;> rfl

/-- Settles O17: the fields are `lstaFields`, and the link is cleared in the same action. -/
theorem lstaReportsAndClears : Obligations.LstaReportsAndClears := by
  refine fun tag link s h => ⟨fun hbad => ?_, fun n hn => ?_⟩
  · simp only [ServesRefusal, exec, execLsta]
    rw [serveCommand_taken h]
    simp only [linkOf_eq_none hbad]
    rfl
  · simp only [exec, execLsta]
    rw [serveCommand_taken h]
    simp only [linkOf_eq_some hn, okServed, lstaFields_eq]
    rfl

/-! ### COMMAND_TAKE and DON (R180, R184) -/

/-- Settles O18: the two events of the interpreter, each with the state it waits in. -/
theorem commandsAreTakenAndDonsPlaced : Obligations.CommandsAreTakenAndDonsPlaced := by
  refine ⟨fun body rest s hpin hcur hhold => ?_, fun s h => ?_, fun d rest s hpin hlist => ?_, fun s h => ?_⟩
  · cases hd : decodeCommand body <;>
      simp only [exec, execCommandTake, hhold, hpin, hcur, and_self, if_true, State.examine, hd]
  · simp only [exec, execCommandTake]
    split
    next body rest hhold =>
      obtain hcur | hnil := h
      · exact if_neg fun k => hcur k.2
      · rw [hhold] at hnil
        cases hnil
    next => rfl
  · have hroom : 1 ≤ s.room cl 0 ↔ s.links[cl].outbound.length < 32 := by
      simp only [State.room, outCap, if_true]
      omega
    simp only [exec, execDon, hlist, hpin, true_and, hroom]
    split <;> rfl
  · simp only [exec, execDon, h]

end Sys2Proof.Machine
end

section
/-! PROOFS. The interpreter's lists and flags (ASTA, STPA, RSMA), CLRA, the arbiter, and the frames the engine
discards. -/

namespace Sys2Proof.Machine

open Sys2Proof.Safety

/-! ### The first entries of an ascending list -/

/-- An entry of an ascending list that is not among the first `m` lies beyond all of them, and they are `m`. -/
theorem not_mem_take_of_pairwise {α : Type} [LT α] {l : List α} (hl : l.Pairwise (· < ·)) {m : Nat} {x : α}
    (hx : x ∈ l) (hnot : x ∉ l.take m) : (l.take m).length = m ∧ ∀ y ∈ l.take m, y < x := by
  rw [← List.take_append_drop m l] at hl hx
  have hdrop : x ∈ l.drop m := (List.mem_append.1 hx).resolve_left hnot
  have hlt : m < l.length := by
    by_contra hge
    rw [List.drop_eq_nil_of_le (not_lt.1 hge)] at hdrop
    cases hdrop
  exact ⟨List.length_take_of_le hlt.le, fun y hy => (List.pairwise_append.1 hl).2.2 y hy x hdrop⟩

/-! ### ASTA (R188) -/

section Page

variable {n : Nat} (p : Fin n → Bool) (first : Nat)

theorem pairwise_filter_finRange : ((List.finRange n).filter p).Pairwise (· < ·) :=
  (List.pairwise_lt_finRange n).sublist List.filter_sublist

theorem astaPage_pairwise : (astaPage ((List.finRange n).filter p) first).Pairwise (· < ·) :=
  ((pairwise_filter_finRange p).sublist List.filter_sublist).sublist (List.take_sublist _ _)

theorem astaPage_mem {i : Fin n} (h : i ∈ astaPage ((List.finRange n).filter p) first) :
    first ≤ i.val ∧ p i = true := by
  obtain ⟨hi, hfirst⟩ := List.mem_filter.1 (List.mem_of_mem_take h)
  exact ⟨of_decide_eq_true hfirst, (List.mem_filter.1 hi).2⟩

theorem astaPage_beyond {i : Fin n} (hfirst : first ≤ i.val) (hp : p i = true)
    (hnot : i ∉ astaPage ((List.finRange n).filter p) first) :
    (astaPage ((List.finRange n).filter p) first).length = 8 ∧
      ∀ j ∈ astaPage ((List.finRange n).filter p) first, j < i := by
  refine not_mem_take_of_pairwise ((pairwise_filter_finRange p).sublist List.filter_sublist) ?_ hnot
  exact List.mem_filter.2 ⟨List.mem_filter.2 ⟨List.mem_finRange i, hp⟩, decide_eq_true hfirst⟩

theorem astaNext_of_nil {list : List (Fin n)} (h : astaPage list first = []) : astaNext list first = 0xFF := by
  simp only [astaNext, h, List.getLast?_nil]

/-- R188: the next number is given by the last entry served. -/
theorem astaNext_of_getLast {i : Fin n} (h : (astaPage ((List.finRange n).filter p) first).getLast? = some i) :
    astaNext ((List.finRange n).filter p) first =
      if ∃ j : Fin n, i < j ∧ p j = true then BitVec.ofNat 8 (i.val + 1) else 0xFF := by
  have hany : ((List.finRange n).filter p).any (fun j => decide (i.val < j.val)) = true ↔
      ∃ j : Fin n, i < j ∧ p j = true := by
    simp [and_comm]
  simp only [astaNext, h, hany]

end Page

/-- R59: the alias entries whose run alarm is yes, in order of link then alias. -/
theorem State.alarms_pairwise (s : State) :
    s.alarms.Pairwise fun p q => p.1 < q.1 ∨ (p.1 = q.1 ∧ p.2 < q.2) := by
  have hmem : ∀ (n : Fin 12) (x : Fin 12 × Fin 4), (x ∈ (List.finRange 4).filterMap fun a =>
      if s.testers[n].bindings[a].alarm then some (n, a) else none) → x.1 = n := by
    intro n x hx
    obtain ⟨a, _, ha⟩ := List.mem_filterMap.1 hx
    split at ha <;> cases ha
    rfl
  refine List.pairwise_flatMap.2 ⟨fun n _ => List.pairwise_filterMap.2 ?_, ?_⟩
  · refine (List.pairwise_lt_finRange 4).imp fun hab x hx y hy => ?_
    split at hx <;> cases hx
    split at hy <;> cases hy
    exact .inr ⟨rfl, hab⟩
  · refine (List.pairwise_lt_finRange 12).imp fun hnm x hx y hy => .inl ?_
    rw [hmem _ x hx, hmem _ y hy]
    exact hnm

theorem State.mem_alarms (s : State) (n : Fin 12) (a : Fin 4) :
    (n, a) ∈ s.alarms ↔ s.testers[n].bindings[a].alarm = true := by
  simp only [State.alarms, List.mem_flatMap, List.mem_finRange, true_and, List.mem_filterMap]
  constructor
  · rintro ⟨n', a', h⟩
    split at h <;> cases h
    assumption
  · exact fun h => ⟨n, a, if_pos h⟩

section Selectors

variable {s : State} {selector first : Byte}

theorem astaAnswer_slots (h : selector.toNat = 1) : astaAnswer s selector first = some (astaSlots s first.toNat) := by
  simp only [astaAnswer, h]

theorem astaAnswer_lots (h : selector.toNat = 2) : astaAnswer s selector first = some (astaLots s first.toNat) := by
  simp only [astaAnswer, h]

theorem astaAnswer_bindings (h : selector.toNat = 3) : astaAnswer s selector first = some (astaBindings s) := by
  simp only [astaAnswer, h]

theorem astaAnswer_links (h : selector.toNat = 4) : astaAnswer s selector first = some (astaLinks s) := by
  simp only [astaAnswer, h]

theorem astaAnswer_eq_none (h : selector.toNat = 0 ∨ 4 < selector.toNat) :
    astaAnswer s selector first = none := by
  unfold astaAnswer
  split <;> [omega; omega; omega; omega; rfl]

end Selectors

/-- R188: an answered ASTA, its four counts written out. -/
theorem exec_asta {tag selector first : Byte} {s : State} (h : InterpreterServes (.asta tag selector first) s)
    {entries next : List Byte} {yields : List Bool}
    (hfields : astaAnswer s selector first = some (astaFields s entries next yields)) :
    exec (.asta tag selector first) s = .next (served (.rsp tag 0x30 .ok (entries ++ next ++
      [BitVec.ofNat 8 ((List.finRange 64).countP fun (i : Fin 64) => s.slots[i].limits.active),
        BitVec.ofNat 8 ((List.finRange 16).countP fun (k : Fin 16) => s.lots[k].limits.active),
        BitVec.ofNat 8 s.alarms.length,
        BitVec.ofNat 8 ((List.finRange 13).countP fun (n : Fin 13) => s.links[n].lastError != .none)] ++
      flagBytes (yields ++ [s.stopAll, s.dropped]))) { s with dropped := false }) := by
  simp only [exec, execAsta]
  rw [serveCommand_taken h]
  simp only [hfields, okServed, astaFields, be1, List.append_assoc, List.cons_append, List.nil_append,
    State.breachedSlots, State.breachedLots, State.failedLinks, List.countP_eq_length_filter]
  rfl

theorem flagBytes_single (b : Bool) : flagBytes [b] = [if b then 0x80 else 0] := by cases b <;> rfl

/-- Settles O19: one list per selector; the pages by the lemmas on the first entries of an ascending list. -/
theorem alertStatusAndStopAll : Obligations.AlertStatusAndStopAll := by
  refine ⟨fun tag selector first s h => ⟨fun hbad => ?_, fun hlo hhi => ?_⟩, fun tag s h => ?_, fun tag s h => ?_⟩
  · simp only [ServesRefusal, exec, execAsta]
    rw [serveCommand_taken h]
    simp only [astaAnswer_eq_none hbad]
    rfl
  · obtain hsel | hsel | hsel | hsel : selector.toNat = 1 ∨ selector.toNat = 2 ∨ selector.toNat = 3 ∨
        selector.toNat = 4 := by omega
    · refine ⟨_, _, _, exec_asta h (astaAnswer_slots hsel), fun _ => ?_, fun k => ?_, fun k => ?_,
        fun k => ?_⟩
      · exact ⟨astaPage s.breachedSlots first.toNat, List.length_take_le _ _, astaPage_pairwise _ _,
          fun _ => astaPage_mem _ _, fun _ => astaPage_beyond (fun i : Fin 64 => s.slots[i].limits.active) _, rfl, rfl,
          fun hnil => congrArg ([·]) (astaNext_of_nil _ hnil),
          fun _ hlast => congrArg ([·]) (astaNext_of_getLast _ _ hlast)⟩
      all_goals omega
    · refine ⟨_, _, _, exec_asta h (astaAnswer_lots hsel), fun k => ?_, fun _ => ?_, fun k => ?_,
        fun k => ?_⟩
      · omega
      · exact ⟨astaPage s.breachedLots first.toNat, List.length_take_le _ _, astaPage_pairwise _ _,
          fun _ => astaPage_mem _ _, fun _ => astaPage_beyond (fun k : Fin 16 => s.lots[k].limits.active) _, rfl, rfl,
          fun hnil => congrArg ([·]) (astaNext_of_nil _ hnil),
          fun _ hlast => congrArg ([·]) (astaNext_of_getLast _ _ hlast)⟩
      all_goals omega
    · refine ⟨_, _, _, exec_asta h (astaAnswer_bindings hsel), fun k => ?_, fun k => ?_,
        fun _ => ⟨rfl, rfl, rfl, s.alarms_pairwise, s.mem_alarms⟩, fun k => ?_⟩
      all_goals omega
    · refine ⟨_, _, _, exec_asta h (astaAnswer_links hsel), fun k => ?_, fun k => ?_, fun k => ?_,
        fun _ => ⟨rfl, rfl, rfl⟩⟩
      all_goals omega
  · rw [← flagBytes_single]
    simp only [exec, execStpa]
    exact serveCommand_taken h
  · rw [← flagBytes_single]
    simp only [exec, execRsma]
    exact serveCommand_taken h

/-! ### CLRA (R190, R191) -/

/-- R190, R191: the CANCELLED completions as the rule lists them. -/
theorem cancelled_eq (s : State) : cancelled s =
    (match s.transfer with
      | some x => [⟨x.tag, 0x1C, .cancelled, be1 x.slot.val ++ be2 x.nextChunk⟩]
      | none => []) ++
    (s.jobs.map fun j => ⟨j.tag, if j.kind = .sweep then 0x17 else 0x28, .cancelled, be1 j.slot.val⟩) ++
    ((List.finRange 64).flatMap fun (i : Fin 64) => match s.slots[i].state, s.slots[i].pendingOpen with
      | .clearing, some o => [⟨o.tag, 0x16, .cancelled, be1 i.val⟩]
      | _, _ => []) ++
    ((List.finRange 16).flatMap fun (k : Fin 16) => match s.lots[k].state, s.lots[k].retirement with
      | .retiring, some t => [⟨t.tag, 0x14, .cancelled, be1 k.val⟩]
      | _, _ => []) := by
  have hexport : (s.transfer.map cancelTransfer).toList = match s.transfer with
      | some x => [⟨x.tag, 0x1C, .cancelled, be1 x.slot.val ++ be2 x.nextChunk⟩]
      | none => [] := by cases s.transfer <;> rfl
  have hjob : cancelJob = fun j => ⟨j.tag, if j.kind = .sweep then 0x17 else 0x28, .cancelled, be1 j.slot.val⟩ := by
    funext j
    unfold cancelJob
    cases j.kind <;> rfl
  rw [cancelled, hexport, hjob, cancelOpens, cancelRetirements, List.filterMap_eq_flatMap_toList,
    List.filterMap_eq_flatMap_toList]
  congr 2
  · congr 1
    refine funext fun i => ?_
    cases s.slots[i].state <;> cases s.slots[i].pendingOpen <;> rfl
  · refine funext fun k => ?_
    cases s.lots[k].state <;> cases s.lots[k].retirement <;> rfl

theorem clraItem_finish {c : Instr} {tag : Byte} {s : State} {dones : List Done} (h : cancelled s = dones) :
    (clraItem c tag s).finish = { answered (.rsp tag c.code .ok (be1 dones.length)) (clearAll s) with
      completions := s.completions ++ dones } := by
  subst h
  rfl

/-- Settles O20: `clearAll`, with the completions of `cancelled_eq` handed after the answer. -/
theorem clearAllEndsAllWork : Obligations.ClearAllEndsAllWork := by
  intro tag s h
  exact (engineCommand_taken h).trans (congrArg Host.Outcome.next (clraItem_finish (cancelled_eq s)))

/-! ### The arbiter (R62, R63) -/

theorem State.hasWork_tl (s : State) (n : Fin 12) : s.hasWork (tl n) = true ↔
    s.links[tl n].state ≠ .stopped ∧ s.links[tl n].holding ≠ [] ∧ s.links[tl n].outbound.length < 4 := by
  have hroom : 1 ≤ s.room (tl n) 0 ↔ s.links[tl n].outbound.length < 4 := by
    simp only [State.room, outCap, tl_ne_cl, if_false]
    omega
  simp only [State.hasWork, tl_ne_cl, if_false, hroom, Bool.and_eq_true, bne_iff_ne, decide_eq_true_eq,
    Bool.not_eq_true', List.isEmpty_eq_false_iff, and_assoc]

theorem State.hasWork_cl (s : State) : s.hasWork cl = true ↔
    (∃ c : Instr, s.current = some c ∧ c.selfServed = false) ∧ s.links[cl].outbound.length < 32 ∧
      s.completions = [] := by
  have hroom : 1 ≤ s.room cl 0 ↔ s.links[cl].outbound.length < 32 := by
    simp only [State.room, outCap, if_true]
    omega
  have hcur : (match s.current with | some c => !c.selfServed | none => false) = true ↔
      ∃ c : Instr, s.current = some c ∧ c.selfServed = false := by
    cases s.current <;> simp
  simp only [State.hasWork, if_true, hroom, Bool.and_eq_true, decide_eq_true_eq, List.isEmpty_iff, and_assoc]
  exact and_congr_left fun _ => hcur

/-- The first number in ascending order that passes a test. -/
theorem find?_finRange_eq_some {n : Nat} {p : Fin n → Bool} {d : Fin n} :
    (List.finRange n).find? p = some d ↔ p d = true ∧ ∀ e < d, p e = false := by
  rw [List.find?_eq_some_iff_getElem]
  refine and_congr_right fun _ => ⟨?_, fun h => ⟨d.val, by simp, by simp, fun e he => ?_⟩⟩
  · rintro ⟨i, hi, hget, hbefore⟩ e he
    rw [List.getElem_finRange] at hget
    have hval : i = d.val := congrArg Fin.val hget
    have := hbefore e.val (hval ▸ he)
    simpa using this
  · rw [List.getElem_finRange, h _ he]
    rfl

theorem State.nextSource_eq (s : State) : s.nextSource =
    ((List.finRange 13).find? fun k => s.hasWork (s.pointer + k)).map (s.pointer + ·) := by
  rw [State.nextSource, List.find?_map]
  rfl

/-- R63: circular order from the pointer is the order of the distance from it. -/
theorem State.nextSource_iff (s : State) (n : Fin 13) : s.nextSource = some n ↔
    s.hasWork n = true ∧ ∀ k : Fin 13, k - s.pointer < n - s.pointer → s.hasWork k = false := by
  have hback : ∀ k : Fin 13, s.pointer + (k - s.pointer) = k := fun k => add_sub_cancel _ _
  simp only [State.nextSource_eq, Option.map_eq_some_iff, find?_finRange_eq_some]
  constructor
  · rintro ⟨d, ⟨hwork, hbefore⟩, rfl⟩
    refine ⟨hwork, fun k hk => ?_⟩
    rw [add_sub_cancel_left] at hk
    have := hbefore _ hk
    rwa [hback] at this
  · rintro ⟨hwork, hbefore⟩
    refine ⟨n - s.pointer, ⟨by rwa [hback], fun e he => hbefore _ ?_⟩, hback n⟩
    rwa [add_sub_cancel_left]

/-- Settles O21: work by source, and the first source in circular order. -/
theorem arbiterTakesTheFirstWithWork : Obligations.ArbiterTakesTheFirstWithWork := by
  refine ⟨State.hasWork_tl, State.hasWork_cl, State.nextSource_iff, fun s => ?_⟩
  simp only [State.nextSource, List.find?_eq_none, List.mem_map, List.mem_finRange, true_and, Bool.not_eq_true]
  constructor
  · exact fun h k => h k ⟨k - s.pointer, add_sub_cancel _ _⟩
  · exact fun h k _ => h k

/-! ### Frames discarded at the take (R65, R170) -/

theorem State.takeFrame_eq (s : State) (n : Fin 12) : s.takeFrame n = { s.setLink (tl n) { s.links[tl n] with
    holding := s.links[tl n].holding.tail
    state := if s.links[tl n].state = .draining ∧ s.links[tl n].receiver = .idle ∧ s.links[tl n].holding.tail = []
      then .stopped else s.links[tl n].state } with pointer := tl n + 1 } := by
  unfold State.takeFrame Link.drained
  dsimp only
  split <;> rfl

theorem exec_frameDiscard {n : Fin 12} {body : List Byte} {s : State} (h : EngineTakesFrame n body s) :
    exec (.frameDiscard n) s = match discardError n body with
      | some e => .next ((s.takeFrame n).linkError (tl n) e)
      | none => .next s := by
  cases hd : discardError n body <;> simp only [exec, execFrameDiscard, nextFrame_eq_some.2 h, Option.bind_some, hd]

/-- Settles O22: the frame leaves the queue as `State.takeFrame_eq` says, and the error is that of its examination. -/
theorem unfitFramesAreDiscarded : Obligations.UnfitFramesAreDiscarded := by
  refine fun n body s h => ⟨s.takeFrame_eq n, fun hd => ?_, fun hd => ?_, fun c hd => ?_⟩
  · rw [exec_frameDiscard h, ← State.takeFrame_eq, discardError, hd]
  · rw [exec_frameDiscard h, ← State.takeFrame_eq, discardError, hd]
  · rw [exec_frameDiscard h, discardError, hd]

end Sys2Proof.Machine
end

section
/-! PROOFS. The bodies of inbound frames (R193, R194): each layout is read back as it was written, and reading loses no
byte. -/

namespace Sys2Proof.Machine

open Sys2Proof.Safety

/-! ### Fields of two bytes, and the entries of LDRC and STMP -/

theorem word16_toNat (a b : Byte) : (word16 a b).toNat = 256 * a.toNat + b.toNat := by
  change (a ++ b : BitVec (8 + 8)).toNat = _
  rw [BitVec.toNat_append, ← Nat.shiftLeft_add_eq_or_of_lt b.isLt, Nat.shiftLeft_eq]
  omega

theorem hiByte_word16 (a b : Byte) : hiByte (word16 a b) = a := by
  refine BitVec.eq_of_toNat_eq ?_
  rw [hiByte, BitVec.extractLsb'_toNat, word16_toNat, Nat.shiftRight_eq_div_pow]
  omega

theorem loByte_word16 (a b : Byte) : loByte (word16 a b) = b := by
  refine BitVec.eq_of_toNat_eq ?_
  rw [loByte, BitVec.extractLsb'_toNat, word16_toNat, Nat.shiftRight_eq_div_pow]
  omega

theorem word16Bytes_word16 (a b : Byte) : word16Bytes (word16 a b) = [a, b] := by
  rw [word16Bytes, hiByte_word16, loByte_word16]

theorem word16_bytes (w : Word16) : word16 (hiByte w) (loByte w) = w := word16_hiByte_loByte w

theorem word16Bytes_eq (w : Word16) : word16Bytes w = [BitVec.ofNat 8 (w.toNat / 256), BitVec.ofNat 8 w.toNat] := by
  have hhi : hiByte w = BitVec.ofNat 8 (w.toNat / 256) := by
    refine BitVec.eq_of_toNat_eq ?_
    simp [hiByte, BitVec.extractLsb'_toNat, Nat.shiftRight_eq_div_pow]
  have hlo : loByte w = BitVec.ofNat 8 w.toNat := by
    refine BitVec.eq_of_toNat_eq ?_
    simp [loByte, BitVec.extractLsb'_toNat]
  rw [word16Bytes, hhi, hlo]

theorem readEntries_flatMap (entries : List EntryWire) : readEntries (entries.flatMap EntryWire.bytes) = entries := by
  induction entries with
  | nil => rfl
  | cons e rest ih =>
    simp only [List.flatMap_cons, EntryWire.bytes, List.cons_append, List.nil_append, readEntries, word16_bytes, ih]

theorem entries_bytes_length (entries : List EntryWire) :
    (entries.flatMap EntryWire.bytes).length = 5 * entries.length := by
  induction entries with
  | nil => rfl
  | cons e rest ih =>
    rw [List.flatMap_cons, List.length_append, ih, List.length_cons]
    simp only [EntryWire.bytes, List.length_cons, List.length_nil]
    omega

/-- A whole number of entries is read without losing a byte. -/
theorem readEntries_of_length {n : Nat} {l : List Byte} (h : l.length = 5 * n) :
    (readEntries l).length = n ∧ (readEntries l).flatMap EntryWire.bytes = l := by
  induction n generalizing l with
  | zero =>
    rw [List.eq_nil_of_length_eq_zero h]
    exact ⟨rfl, rfl⟩
  | succ n ih =>
    match l, h with
    | a :: b :: c :: d :: e :: rest, h =>
      obtain ⟨hlen, hbytes⟩ := ih (l := rest) (by simp only [List.length_cons] at h; omega)
      simp only [readEntries, List.length_cons, hlen, List.flatMap_cons, EntryWire.bytes, hiByte_word16, loByte_word16,
        hbytes, List.cons_append, List.nil_append, and_self]

theorem readSites_flatMap (entries : List SiteWire) : readSites (entries.flatMap SiteWire.bytes) = entries := by
  induction entries with
  | nil => rfl
  | cons e rest ih => simp only [List.flatMap_cons, SiteWire.bytes, List.cons_append, List.nil_append, readSites, ih]

theorem sites_bytes_length (entries : List SiteWire) :
    (entries.flatMap SiteWire.bytes).length = 4 * entries.length := by
  induction entries with
  | nil => rfl
  | cons e rest ih =>
    rw [List.flatMap_cons, List.length_append, ih, List.length_cons]
    simp only [SiteWire.bytes, List.length_cons, List.length_nil]
    omega

theorem readSites_of_length {n : Nat} {l : List Byte} (h : l.length = 4 * n) :
    (readSites l).length = n ∧ (readSites l).flatMap SiteWire.bytes = l := by
  induction n generalizing l with
  | zero =>
    rw [List.eq_nil_of_length_eq_zero h]
    exact ⟨rfl, rfl⟩
  | succ n ih =>
    match l, h with
    | a :: b :: c :: d :: rest, h =>
      obtain ⟨hlen, hbytes⟩ := ih (l := rest) (by simp only [List.length_cons] at h; omega)
      simp only [readSites, List.length_cons, hlen, List.flatMap_cons, SiteWire.bytes, hbytes, List.cons_append,
        List.nil_append, and_self]

/-! ### Written bodies are read back -/

/-- A body of tag, identifier and further bytes, read field by field. -/
theorem decodeIdent_append {k : Byte → LotId → List Byte → Option Instr} {tag : Byte} {ident : LotId} {c : Instr}
    (h : ident.wf = true) (more : List Byte) (hk : k tag ident more = some c) :
    decodeIdent k (tag :: (ident ++ more)) = .command c := by
  have hlen : ident.length = 12 := by simpa [LotId.wf] using h
  have hlong : ¬ (ident ++ more).length < 12 := by simp [hlen]
  rw [decodeIdent, if_neg hlong, List.take_left' hlen, List.drop_left' hlen, hk]

theorem decodeIdent_self {k : Byte → LotId → List Byte → Option Instr} {tag : Byte} {ident : LotId} {c : Instr}
    (h : ident.wf = true) (hk : k tag ident [] = some c) : decodeIdent k (tag :: ident) = .command c := by
  have := decodeIdent_append h [] hk
  rwa [List.append_nil] at this

section IdentTypes

variable (rest : List Byte)

theorem decodeCommand_oplt : decodeCommand (0x12 :: rest) = decodeIdent (fun tag ident more => match more with
    | [recipe] => some (.oplt tag ident recipe)
    | _ => none) rest := rfl

theorem decodeCommand_cllt : decodeCommand (0x13 :: rest) = decodeIdent (fun tag ident more => match more with
    | [] => some (.cllt tag ident)
    | _ => none) rest := rfl

theorem decodeCommand_rtlt : decodeCommand (0x14 :: rest) = decodeIdent (fun tag ident more => match more with
    | [] => some (.rtlt tag ident)
    | _ => none) rest := rfl

theorem decodeCommand_lsum : decodeCommand (0x15 :: rest) = decodeIdent (fun tag ident more => match more with
    | [first, last, position] => some (.lsum tag ident first last position)
    | _ => none) rest := rfl

theorem decodeCommand_opwf : decodeCommand (0x16 :: rest) = decodeIdent (fun tag ident more => match more with
    | [wafer, rh, rl, ch, cl, round, hold] => some (.opwf tag ident wafer (word16 rh rl) (word16 ch cl) round hold)
    | _ => none) rest := rfl

theorem decodeCommand_fndw : decodeCommand (0x1D :: rest) = decodeIdent (fun tag ident more => match more with
    | [wafer] => some (.fndw tag ident wafer)
    | _ => none) rest := rfl

end IdentTypes

theorem scalars_bytes_length (w : ScalarsWire) : w.bytes.length = 12 := rfl

theorem decodeLdrc_part1 {tag recipe part : Byte} {w : ScalarsWire} {entries : List EntryWire}
    (hlen : entries.length = 31) (hpart : part ≠ 2) :
    decodeLdrc ([tag, recipe, part] ++ w.bytes ++ entries.flatMap EntryWire.bytes) =
      .command (.ldrcPart1 tag recipe part w entries) := by
  have hrest : (w.bytes ++ entries.flatMap EntryWire.bytes).length = 167 := by
    rw [List.length_append, scalars_bytes_length, entries_bytes_length, hlen]
  rw [List.append_assoc]
  simp only [List.cons_append, List.nil_append, decodeLdrc]
  rw [if_pos ⟨hrest, hpart⟩]
  simp only [ScalarsWire.bytes, word16Bytes, List.cons_append, List.nil_append, word16_bytes, readEntries_flatMap]

theorem decodeLdrc_part2 {tag recipe part : Byte} {entries : List EntryWire} (hlen : entries.length = 32)
    (hpart : part ≠ 1) : decodeLdrc ([tag, recipe, part] ++ entries.flatMap EntryWire.bytes) =
      .command (.ldrcPart2 tag recipe part entries) := by
  have hrest : (entries.flatMap EntryWire.bytes).length = 160 := by rw [entries_bytes_length, hlen]
  simp only [List.cons_append, List.nil_append, decodeLdrc]
  rw [if_neg (by omega), if_pos ⟨hrest, hpart⟩, readEntries_flatMap]

theorem decodeStmp_bytes {tag link count : Byte} {entries : List SiteWire} (h : entries.length = count.toNat) :
    decodeStmp ([tag, link, count] ++ entries.flatMap SiteWire.bytes) = .command (.stmp tag link count entries) := by
  simp only [List.cons_append, List.nil_append, decodeStmp, sites_bytes_length, h, if_true, readSites_flatMap]

theorem decodeRlhd_append {tag kind slot : Byte} {ident : LotId} (h : ident.wf = true) :
    decodeRlhd ([tag, kind, slot] ++ ident) =
      if kind = 2 then .command (.rlhdLot tag slot ident) else .command (.rlhdWafer tag kind slot ident) := by
  have hlen : ident.length = 12 := by simpa [LotId.wf] using h
  simp only [List.cons_append, List.nil_append, decodeRlhd, hlen, if_true]

theorem decodeLctl_start {tag link action value : Byte} (h : action.toNat = 0 ∨ 5 < action.toNat) :
    decodeLctl [tag, link, action, value] = .command (.lctlStart tag link action value) := by
  unfold decodeLctl
  dsimp only
  split <;> [omega; omega; omega; omega; omega; rfl]

/-- R194: every well-formed CL command. -/
theorem decodeCommand_body {c : Instr} (hwf : c.wf = true) (hc : c.isCommand = true) :
    decodeCommand c.body = .command c := by
  cases c
  case ldrcPart1 tag recipe part w entries =>
    simp only [Instr.wf, Bool.and_eq_true, beq_iff_eq, bne_iff_ne] at hwf
    exact decodeLdrc_part1 hwf.1 hwf.2
  case ldrcPart2 tag recipe part entries =>
    simp only [Instr.wf, Bool.and_eq_true, beq_iff_eq, bne_iff_ne] at hwf
    exact decodeLdrc_part2 hwf.1 hwf.2
  case oplt tag ident recipe =>
    refine (decodeCommand_oplt _).trans ?_
    exact decodeIdent_append hwf [recipe] rfl
  case cllt tag ident =>
    refine (decodeCommand_cllt _).trans ?_
    exact decodeIdent_self hwf rfl
  case rtlt tag ident =>
    refine (decodeCommand_rtlt _).trans ?_
    exact decodeIdent_self hwf rfl
  case lsum tag ident first last position =>
    refine (decodeCommand_lsum _).trans ?_
    exact decodeIdent_append hwf [first, last, position] rfl
  case opwf tag ident wafer rows cols round hold =>
    refine (decodeCommand_opwf _).trans ?_
    have hpayload : (Instr.opwf tag ident wafer rows cols round hold).payload = tag :: (ident ++
        [wafer, hiByte rows, loByte rows, hiByte cols, loByte cols, round, hold]) := by
      simp [Instr.payload, word16Bytes]
    rw [hpayload]
    refine decodeIdent_append hwf _ ?_
    simp only [word16_bytes]
  case fndw tag ident wafer =>
    refine (decodeCommand_fndw _).trans ?_
    exact decodeIdent_append hwf [wafer] rfl
  case dgst tag slot start count =>
    change Decoded.command (.dgst tag slot (word16 (hiByte start) (loByte start))
      (word16 (hiByte count) (loByte count))) = _
    rw [word16_bytes, word16_bytes]
  case stmp tag link count entries =>
    simp only [Instr.wf, Bool.and_eq_true, beq_iff_eq] at hwf
    exact decodeStmp_bytes hwf.1
  case rlhdWafer tag kind slot ident =>
    simp only [Instr.wf, Bool.and_eq_true, bne_iff_ne] at hwf
    exact (decodeRlhd_append hwf.1).trans (if_neg hwf.2)
  case rlhdLot tag slot ident => exact decodeRlhd_append (kind := 2) hwf
  case lctlStart tag link action value =>
    simp only [Instr.wf, Bool.or_eq_true, beq_iff_eq, decide_eq_true_eq] at hwf
    exact decodeLctl_start hwf
  case powerOn | resetPinAssert | resetPinRelease | byteReceived | interByteTimeout | messageSent | frameDiscard |
      tdr | clq | rtp | commandTake | clearingEnd | sweepEnd | digestEnd | mch | mnd | don => cases hc
  all_goals rfl

theorem decodeReport_body {c : Instr} {n : Fin 12} (h : reportLink c = some n) :
    decodeReport n c.body = .command c := by
  cases c
  case tdr n' aliasNo x0 y0 count results =>
    cases h
    change Decoded.command (.tdr n aliasNo (word16 (hiByte x0) (loByte x0)) (word16 (hiByte y0) (loByte y0)) count
      results) = _
    rw [word16_bytes, word16_bytes]
  case clq => cases h; rfl
  case rtp n' aliasNo start maxCount =>
    cases h
    change Decoded.command (.rtp n aliasNo (word16 (hiByte start) (loByte start)) maxCount) = _
    rw [word16_bytes]
  all_goals cases h

/-! ### Bodies fit a frame (R163) -/

theorem lotId_length {ident : LotId} (h : ident.wf = true) : ident.length = 12 := by simpa [LotId.wf] using h

/-- R194: the longest body of each type that has lists among its fields. -/
theorem body_length_le {c : Instr} (hwf : c.wf = true) : c.body.length ≤ 200 := by
  cases c
  case tdr n aliasNo x0 y0 count results =>
    have hmax : results.length ≤ 193 := by simpa [Instr.wf] using hwf
    simp only [Instr.body, Instr.payload, word16Bytes, List.length_cons, List.length_append, List.length_nil]
    omega
  case ldrcPart1 tag recipe part w entries =>
    simp only [Instr.wf, Bool.and_eq_true, beq_iff_eq] at hwf
    simp only [Instr.body, Instr.payload, List.length_cons, List.length_append, List.length_nil,
      scalars_bytes_length, entries_bytes_length, hwf.1]
    omega
  case ldrcPart2 tag recipe part entries =>
    simp only [Instr.wf, Bool.and_eq_true, beq_iff_eq] at hwf
    simp only [Instr.body, Instr.payload, List.length_cons, List.length_append, List.length_nil,
      entries_bytes_length, hwf.1]
    omega
  case stmp tag link count entries =>
    simp only [Instr.wf, Bool.and_eq_true, decide_eq_true_eq] at hwf
    have hmax := hwf.2
    simp only [Instr.body, Instr.payload, List.length_cons, List.length_append, List.length_nil, sites_bytes_length]
    omega
  case oplt | cllt | rtlt | lsum | opwf | fndw | rlhdLot =>
    simp only [Instr.body, Instr.payload, word16Bytes, List.length_cons, List.length_append, List.length_nil,
      lotId_length hwf]
    omega
  case rlhdWafer tag kind slot ident =>
    simp only [Instr.wf, Bool.and_eq_true] at hwf
    simp only [Instr.body, Instr.payload, List.length_cons, List.length_append, List.length_nil,
      lotId_length hwf.1]
    omega
  all_goals
    simp only [Instr.body, Instr.payload, word16Bytes, List.length_cons, List.length_append, List.length_nil]
    omega

/-- Settles O5: every command is read back as itself, and its body has at most 200 bytes. -/
theorem frameBodyDecodesToItself : Obligations.FrameBodyDecodesToItself :=
  ⟨fun _ hwf hc => ⟨decodeCommand_body hwf hc, body_length_le hwf⟩,
    fun _ _ hwf hr => ⟨decodeReport_body hr, body_length_le hwf⟩⟩

end Sys2Proof.Machine
end

section
/-! PROOFS. Reading a body loses nothing (R194): for every type, which lengths fit, and that what is read is written
back as the same body. -/

namespace Sys2Proof.Machine

open Sys2Proof.Safety

/-! ### What is said of each type -/

/-- The well-formed command of a kind that a body spells. -/
structure Spells (kind : Instr → Prop) (c : Instr) (body : List Byte) : Prop where
  wf   : c.wf = true
  kind : kind c
  body : c.body = body

/-- The examination of a body of a known type: LENGTH exactly when the length does not fit, and no byte lost. -/
structure Examined (kind : Instr → Prop) (type : Byte) (rest : List Byte) (fits : Prop) (d : Decoded) : Prop where
  command : ∀ c, rest.length < 200 → d = .command c → Spells kind c (type :: rest)
  known   : d ≠ .unknownType
  fits    : d = .wrongLength ↔ ¬ fits

section Examined

variable {kind : Instr → Prop} {type : Byte} {rest : List Byte} {d : Decoded}

theorem Examined.of_fits {fits : Prop} {c : Instr} (hd : d = .command c) (hfits : fits)
    (hc : rest.length < 200 → Spells kind c (type :: rest)) : Examined kind type rest fits d where
  command c' hlen h := by
    obtain rfl := Decoded.command.inj (hd.symm.trans h)
    exact hc hlen
  known h := nomatch hd.symm.trans h
  fits := iff_of_false (fun h => nomatch hd.symm.trans h) (not_not.2 hfits)

theorem Examined.of_not_fits {fits : Prop} (hd : d = .wrongLength) (hfits : ¬ fits) :
    Examined kind type rest fits d where
  command _ _ h := nomatch hd.symm.trans h
  known h := nomatch hd.symm.trans h
  fits := iff_of_true hd hfits

/-- A type of one length. -/
theorem Examined.of_length {n : Nat}
    (hfit : rest.length + 1 = n → ∃ c, d = .command c ∧ Spells kind c (type :: rest))
    (hno : rest.length + 1 ≠ n → d = .wrongLength) : Examined kind type rest (rest.length + 1 = n) d := by
  by_cases h : rest.length + 1 = n
  · obtain ⟨c, hd, hc⟩ := hfit h
    exact .of_fits hd h fun _ => hc
  · exact .of_not_fits (hno h) h

end Examined

/-! ### The layouts of fixed length -/

section Fixed

variable {kind : Instr → Prop} {type : Byte} {rest : List Byte}

theorem examined_bare {k : Byte → Instr} (h : ∀ a, Spells kind (k a) [type, a]) :
    Examined kind type rest (rest.length + 1 = 2) (decodeBare k rest) := by
  refine .of_length (fun hlen => ?_) fun hlen => ?_
  · match rest, hlen with
    | [a], _ => exact ⟨_, rfl, h a⟩
  · unfold decodeBare
    split <;> [exact absurd rfl hlen; rfl]

theorem examined_slot {k : Byte → Byte → Instr} (h : ∀ a b, Spells kind (k a b) [type, a, b]) :
    Examined kind type rest (rest.length + 1 = 3) (decodeSlot k rest) := by
  refine .of_length (fun hlen => ?_) fun hlen => ?_
  · match rest, hlen with
    | [a, b], _ => exact ⟨_, rfl, h a b⟩
  · unfold decodeSlot
    split <;> [exact absurd rfl hlen; rfl]

theorem examined_three {k : Byte → Byte → Byte → Instr} (h : ∀ a b c, Spells kind (k a b c) [type, a, b, c]) :
    Examined kind type rest (rest.length + 1 = 4) (match rest with
      | [a, b, c] => .command (k a b c)
      | _ => .wrongLength) := by
  refine .of_length (fun hlen => ?_) fun hlen => ?_
  · match rest, hlen with
    | [a, b, c], _ => exact ⟨_, rfl, h a b c⟩
  · split <;> [exact absurd rfl hlen; rfl]

theorem examined_four {k : Byte → Byte → Byte → Byte → Instr}
    (h : ∀ a b c d, Spells kind (k a b c d) [type, a, b, c, d]) :
    Examined kind type rest (rest.length + 1 = 5) (match rest with
      | [a, b, c, d] => .command (k a b c d)
      | _ => .wrongLength) := by
  refine .of_length (fun hlen => ?_) fun hlen => ?_
  · match rest, hlen with
    | [a, b, c, d], _ => exact ⟨_, rfl, h a b c d⟩
  · split <;> [exact absurd rfl hlen; rfl]

theorem examined_five {k : Byte → Byte → Byte → Byte → Byte → Instr}
    (h : ∀ a b c d e, Spells kind (k a b c d e) [type, a, b, c, d, e]) :
    Examined kind type rest (rest.length + 1 = 6) (match rest with
      | [a, b, c, d, e] => .command (k a b c d e)
      | _ => .wrongLength) := by
  refine .of_length (fun hlen => ?_) fun hlen => ?_
  · match rest, hlen with
    | [a, b, c, d, e], _ => exact ⟨_, rfl, h a b c d e⟩
  · split <;> [exact absurd rfl hlen; rfl]

theorem examined_six {k : Byte → Byte → Byte → Byte → Byte → Byte → Instr}
    (h : ∀ a b c d e f, Spells kind (k a b c d e f) [type, a, b, c, d, e, f]) :
    Examined kind type rest (rest.length + 1 = 7) (match rest with
      | [a, b, c, d, e, f] => .command (k a b c d e f)
      | _ => .wrongLength) := by
  refine .of_length (fun hlen => ?_) fun hlen => ?_
  · match rest, hlen with
    | [a, b, c, d, e, f], _ => exact ⟨_, rfl, h a b c d e f⟩
  · split <;> [exact absurd rfl hlen; rfl]

/-- A body of tag, identifier and `m` further bytes. -/
theorem examined_ident {k : Byte → LotId → List Byte → Option Instr} (m : Nat)
    (hfit : ∀ tag ident more, ident.wf = true → more.length = m →
      ∃ c, k tag ident more = some c ∧ Spells kind c (type :: tag :: (ident ++ more)))
    (hno : ∀ tag ident more, more.length ≠ m → k tag ident more = none) :
    Examined kind type rest (rest.length + 1 = 14 + m) (decodeIdent k rest) := by
  refine .of_length (fun hlen => ?_) fun hlen => ?_
  · match rest, hlen with
    | [], hlen => rw [List.length_nil] at hlen; omega
    | tag :: more, hlen =>
      rw [List.length_cons] at hlen
      have hwf : LotId.wf (more.take 12) = true := by
        simp only [LotId.wf, List.length_take, beq_iff_eq]
        omega
      obtain ⟨c, hk, hc⟩ := hfit tag (more.take 12) (more.drop 12) hwf (by rw [List.length_drop]; omega)
      rw [List.take_append_drop] at hc
      refine ⟨c, ?_, hc⟩
      rw [decodeIdent, if_neg (by omega), hk]
  · cases rest with
    | nil => rfl
    | cons tag more =>
      rw [List.length_cons] at hlen
      unfold decodeIdent
      dsimp only
      split
      · rfl
      · rw [hno _ _ _ (by rw [List.length_drop]; omega)]

end Fixed

/-! ### LDRC, STMP, RLHD and LCTL -/

section Varied

variable {rest : List Byte}

theorem examined_ldrc : Examined (fun c => c.isCommand = true) 0x10 rest
    ((rest.length + 1 = 171 ∧ rest.getD 2 0 ≠ 2) ∨ (rest.length + 1 = 164 ∧ rest.getD 2 0 ≠ 1)) (decodeLdrc rest) := by
  match rest with
  | [] | [_] | [_, _] => exact .of_not_fits rfl (by simp)
  | tag :: recipe :: part :: more =>
    simp only [List.length_cons, List.getD_cons_succ, List.getD_cons_zero, decodeLdrc]
    split
    next h1 =>
      match more, h1.1 with
      | policy :: limit :: wfh :: wfl :: lfh :: lfl :: nh :: nl :: hh :: hl :: run :: advice :: entries, hlen =>
        have hentries := readEntries_of_length (n := 31) (l := entries) (by simp only [List.length_cons] at hlen; omega)
        refine .of_fits rfl (.inl ⟨by omega, h1.2⟩) fun _ => ⟨?_, rfl, ?_⟩
        · simpa [Instr.wf, hentries.1] using h1.2
        · simp [Instr.body, Instr.code, Instr.payload, ScalarsWire.bytes, word16Bytes_word16, hentries.2]
    next h1 =>
      split
      next h2 =>
        have hentries := readEntries_of_length (n := 32) (l := more) (by omega)
        refine .of_fits rfl (.inr ⟨by omega, h2.2⟩) fun _ => ⟨?_, rfl, ?_⟩
        · simpa [Instr.wf, hentries.1] using h2.2
        · simp [Instr.body, Instr.code, Instr.payload, hentries.2]
      next h2 =>
        refine .of_not_fits rfl ?_
        rintro (⟨h, hpart⟩ | ⟨h, hpart⟩)
        exacts [h1 ⟨by omega, hpart⟩, h2 ⟨by omega, hpart⟩]

theorem examined_stmp : Examined (fun c => c.isCommand = true) 0x2C rest
    (rest.length + 1 = 4 + 4 * (rest.getD 2 0).toNat) (decodeStmp rest) := by
  match rest with
  | [] => exact .of_not_fits rfl (by simp)
  | [_] => exact .of_not_fits rfl (by simp)
  | [_, _] => exact .of_not_fits rfl (by simp)
  | tag :: link :: count :: more =>
    simp only [List.length_cons, List.getD_cons_succ, List.getD_cons_zero, decodeStmp]
    split
    next h =>
      obtain ⟨hlen, hbytes⟩ := readSites_of_length h
      refine .of_fits rfl (by omega) fun hmax => ⟨?_, rfl, ?_⟩
      · simp only [List.length_cons] at hmax
        simp only [Instr.wf, hlen, beq_self_eq_true, Bool.true_and, decide_eq_true_eq]
        omega
      · simp [Instr.body, Instr.code, Instr.payload, hbytes]
    next h => exact .of_not_fits rfl (by omega)

theorem examined_rlhd : Examined (fun c => c.isCommand = true) 0x2D rest (rest.length + 1 = 16) (decodeRlhd rest) := by
  match rest with
  | [] => exact .of_not_fits rfl (by simp)
  | [_] => exact .of_not_fits rfl (by simp)
  | [_, _] => exact .of_not_fits rfl (by simp)
  | tag :: kind :: slot :: ident =>
    simp only [List.length_cons, decodeRlhd]
    split
    next h =>
      have hwf : LotId.wf ident = true := by simp [LotId.wf, h]
      split
      next hkind =>
        subst hkind
        exact .of_fits rfl (by omega) fun _ => ⟨hwf, rfl, rfl⟩
      next hkind => exact .of_fits rfl (by omega) fun _ => ⟨by simpa [Instr.wf, hwf] using hkind, rfl, rfl⟩
    next h => exact .of_not_fits rfl (by omega)

theorem examined_lctl : Examined (fun c => c.isCommand = true) 0x2E rest (rest.length + 1 = 5) (decodeLctl rest) := by
  refine .of_length (fun hlen => ?_) fun hlen => ?_
  · match rest, hlen with
    | [tag, link, action, value], _ =>
      have haction : ∀ {k : Nat}, action.toNat = k → action = BitVec.ofNat 8 k := fun h => by rw [← h]; simp
      unfold decodeLctl
      dsimp only
      split
      next h => obtain rfl := haction h; exact ⟨_, rfl, rfl, rfl, rfl⟩
      next h => obtain rfl := haction h; exact ⟨_, rfl, rfl, rfl, rfl⟩
      next h => obtain rfl := haction h; exact ⟨_, rfl, rfl, rfl, rfl⟩
      next h => obtain rfl := haction h; exact ⟨_, rfl, rfl, rfl, rfl⟩
      next h => obtain rfl := haction h; exact ⟨_, rfl, rfl, rfl, rfl⟩
      next h1 h2 h3 h4 h5 =>
        refine ⟨_, rfl, ?_, rfl, rfl⟩
        simp only [imp_false] at h1 h2 h3 h4 h5
        simp only [Instr.wf, Bool.or_eq_true, beq_iff_eq, decide_eq_true_eq]
        omega
  · unfold decodeLctl
    split <;> [exact absurd rfl hlen; rfl]

end Varied

/-! ### Every type -/

/-- The lengths that fit each type of CL body (R194), from the bytes after the type byte. -/
def commandFits (type : Nat) (rest : List Byte) : Prop :=
  let length := rest.length + 1
  let fourth := rest.getD 2 0
  match type with
  | 0x10 => (length = 171 ∧ fourth ≠ 2) ∨ (length = 164 ∧ fourth ≠ 1)
  | 0x11 => length = 4
  | 0x12 => length = 15
  | 0x13 | 0x14 => length = 14
  | 0x15 => length = 17
  | 0x16 => length = 21
  | 0x17 | 0x18 | 0x19 | 0x1A | 0x1B | 0x1C => length = 3
  | 0x1D => length = 15
  | 0x1E => length = 5
  | 0x1F | 0x20 => length = 6
  | 0x21 => length = 5
  | 0x22 | 0x23 => length = 7
  | 0x24 | 0x25 | 0x26 | 0x27 => length = 2
  | 0x28 => length = 7
  | 0x29 => length = 5
  | 0x2A | 0x2B => length = 4
  | 0x2C => length = 4 + 4 * fourth.toNat
  | 0x2D => length = 16
  | 0x2E => length = 5
  | 0x2F => length = 3
  | 0x30 => length = 4
  | _ => False

/-- What is said of the examination of a CL body, type by type. -/
abbrev ExaminedCommand (type : Byte) (rest : List Byte) : Prop :=
  Examined (fun c => c.isCommand = true) type rest (commandFits type.toNat rest) (decodeCommand (type :: rest))

section Idents

variable (rest : List Byte)

theorem examined_oplt : ExaminedCommand 0x12 rest := by
  unfold ExaminedCommand
  rw [decodeCommand_oplt]
  refine examined_ident 1 (fun tag ident more hwf hlen => ?_) fun tag ident more hlen => ?_
  · match more, hlen with
    | [recipe], _ => exact ⟨_, rfl, hwf, rfl, rfl⟩
  · split <;> [exact absurd rfl hlen; rfl]

theorem examined_cllt : ExaminedCommand 0x13 rest := by
  unfold ExaminedCommand
  rw [decodeCommand_cllt]
  refine examined_ident 0 (fun tag ident more hwf hlen => ?_) fun tag ident more hlen => ?_
  · match more, hlen with
    | [], _ => exact ⟨_, rfl, hwf, rfl, by rw [List.append_nil]; rfl⟩
  · split <;> [exact absurd rfl hlen; rfl]

theorem examined_rtlt : ExaminedCommand 0x14 rest := by
  unfold ExaminedCommand
  rw [decodeCommand_rtlt]
  refine examined_ident 0 (fun tag ident more hwf hlen => ?_) fun tag ident more hlen => ?_
  · match more, hlen with
    | [], _ => exact ⟨_, rfl, hwf, rfl, by rw [List.append_nil]; rfl⟩
  · split <;> [exact absurd rfl hlen; rfl]

theorem examined_lsum : ExaminedCommand 0x15 rest := by
  unfold ExaminedCommand
  rw [decodeCommand_lsum]
  refine examined_ident 3 (fun tag ident more hwf hlen => ?_) fun tag ident more hlen => ?_
  · match more, hlen with
    | [first, last, position], _ => exact ⟨_, rfl, hwf, rfl, rfl⟩
  · split <;> [exact absurd rfl hlen; rfl]

theorem examined_opwf : ExaminedCommand 0x16 rest := by
  unfold ExaminedCommand
  rw [decodeCommand_opwf]
  refine examined_ident 7 (fun tag ident more hwf hlen => ?_) fun tag ident more hlen => ?_
  · match more, hlen with
    | [wafer, rh, rl, ch, cl, round, hold], _ =>
      exact ⟨_, rfl, hwf, rfl, by simp [Instr.body, Instr.code, Instr.payload, word16Bytes_word16]⟩
  · split <;> [exact absurd rfl hlen; rfl]

theorem examined_fndw : ExaminedCommand 0x1D rest := by
  unfold ExaminedCommand
  rw [decodeCommand_fndw]
  refine examined_ident 1 (fun tag ident more hwf hlen => ?_) fun tag ident more hlen => ?_
  · match more, hlen with
    | [wafer], _ => exact ⟨_, rfl, hwf, rfl, rfl⟩
  · split <;> [exact absurd rfl hlen; rfl]

end Idents

theorem examinedCommand {type : Byte} (hlo : 0x10 ≤ type.toNat) (hhi : type.toNat ≤ 0x30) (rest : List Byte) :
    ExaminedCommand type rest := by
  obtain ⟨k, hk, hk', rfl⟩ : ∃ k, 0x10 ≤ k ∧ k ≤ 0x30 ∧ type = BitVec.ofNat 8 k := ⟨type.toNat, hlo, hhi, by simp⟩
  clear hlo hhi
  interval_cases k
  exacts [
    -- 0x10 LDRC to 0x16 OPWF
    examined_ldrc,
    examined_three fun _ _ _ => ⟨rfl, rfl, rfl⟩,
    examined_oplt rest,
    examined_cllt rest,
    examined_rtlt rest,
    examined_lsum rest,
    examined_opwf rest,
    -- 0x17 CLWF to 0x1C XPRT: one slot byte
    examined_slot fun _ _ => ⟨rfl, rfl, rfl⟩,
    examined_slot fun _ _ => ⟨rfl, rfl, rfl⟩,
    examined_slot fun _ _ => ⟨rfl, rfl, rfl⟩,
    examined_slot fun _ _ => ⟨rfl, rfl, rfl⟩,
    examined_slot fun _ _ => ⟨rfl, rfl, rfl⟩,
    examined_slot fun _ _ => ⟨rfl, rfl, rfl⟩,
    -- 0x1D FNDW to 0x23 INCL
    examined_fndw rest,
    examined_four fun _ _ _ _ => ⟨rfl, rfl, rfl⟩,
    examined_five fun _ _ _ _ _ => ⟨rfl, rfl, rfl⟩,
    examined_five fun _ _ _ _ _ => ⟨rfl, rfl, rfl⟩,
    examined_four fun _ _ _ _ => ⟨rfl, rfl, rfl⟩,
    examined_six fun _ _ _ _ _ _ => ⟨rfl, rfl, rfl⟩,
    examined_six fun _ _ _ _ _ _ => ⟨rfl, rfl, rfl⟩,
    -- 0x24 XSTP to 0x27 CLRA: a tag alone
    examined_bare fun _ => ⟨rfl, rfl, rfl⟩,
    examined_bare fun _ => ⟨rfl, rfl, rfl⟩,
    examined_bare fun _ => ⟨rfl, rfl, rfl⟩,
    examined_bare fun _ => ⟨rfl, rfl, rfl⟩,
    -- 0x28 DGST to 0x30 ASTA
    examined_six (k := fun tag slot sh sl ch cl => .dgst tag slot (word16 sh sl) (word16 ch cl))
      fun _ _ _ _ _ _ => ⟨rfl, rfl, by simp [Instr.body, Instr.code, Instr.payload, word16Bytes_word16]⟩,
    examined_four fun _ _ _ _ => ⟨rfl, rfl, rfl⟩,
    examined_three fun _ _ _ => ⟨rfl, rfl, rfl⟩,
    examined_three fun _ _ _ => ⟨rfl, rfl, rfl⟩,
    examined_stmp,
    examined_rlhd,
    examined_lctl,
    examined_slot fun _ _ => ⟨rfl, rfl, rfl⟩,
    examined_three fun _ _ _ => ⟨rfl, rfl, rfl⟩]

theorem decodeCommand_unknown {type : Byte} (h : type.toNat < 0x10 ∨ 0x30 < type.toNat) (rest : List Byte) :
    decodeCommand (type :: rest) = .unknownType := by
  unfold decodeCommand
  dsimp only
  split
  case h_34 => rfl
  all_goals omega

/-- The lengths that fit each type of tester body (R194). -/
def reportFits (type : Nat) (rest : List Byte) : Prop :=
  let length := rest.length + 1
  match type with
  | 1 => 7 ≤ length
  | 2 => length = 4
  | 3 => length = 5
  | _ => False

theorem examinedReport (n : Fin 12) {type : Byte} (hlo : 1 ≤ type.toNat) (hhi : type.toNat ≤ 3) (rest : List Byte) :
    Examined (fun c => reportLink c = some n) type rest (reportFits type.toNat rest)
      (decodeReport n (type :: rest)) := by
  obtain ⟨k, hk, hk', rfl⟩ : ∃ k, 1 ≤ k ∧ k ≤ 3 ∧ type = BitVec.ofNat 8 k := ⟨type.toNat, hlo, hhi, by simp⟩
  clear hlo hhi
  interval_cases k
  · by_cases hlen : 7 ≤ rest.length + 1
    · match rest, hlen with
      | aliasNo :: xh :: xl :: yh :: yl :: count :: results, hlen =>
        refine .of_fits rfl hlen fun hmax => ⟨?_, rfl, ?_⟩
        · simp only [List.length_cons] at hmax
          simp only [Instr.wf, decide_eq_true_eq]
          omega
        · simp [Instr.body, Instr.code, Instr.payload, word16Bytes_word16]
    · refine .of_not_fits ?_ hlen
      change (match rest with
        | aliasNo :: xh :: xl :: yh :: yl :: count :: results =>
          Decoded.command (.tdr n aliasNo (word16 xh xl) (word16 yh yl) count results)
        | _ => .wrongLength) = _
      split
      · simp only [List.length_cons] at hlen
        omega
      · rfl
  · exact examined_three (k := fun a x y => .clq n a x y) fun _ _ _ => ⟨rfl, rfl, rfl⟩
  · exact examined_four (k := fun a sh sl most => .rtp n a (word16 sh sl) most) fun _ _ _ _ =>
      ⟨rfl, rfl, by simp [Instr.body, Instr.code, Instr.payload, word16Bytes_word16]⟩

theorem decodeReport_unknown {n : Fin 12} {type : Byte} (h : type.toNat = 0 ∨ 3 < type.toNat) (rest : List Byte) :
    decodeReport n (type :: rest) = .unknownType := by
  unfold decodeReport
  dsimp only
  split
  case h_4 => rfl
  all_goals omega

theorem decodeCommand_spells {body : List Byte} {c : Instr} (hlen : body.length ≤ 200)
    (h : decodeCommand body = .command c) : Spells (fun c => c.isCommand = true) c body := by
  cases body with
  | nil => cases h
  | cons type rest =>
    by_cases hknown : 0x10 ≤ type.toNat ∧ type.toNat ≤ 0x30
    · exact (examinedCommand hknown.1 hknown.2 rest).command c hlen h
    · rw [decodeCommand_unknown (by omega)] at h
      cases h

theorem decodeReport_spells {n : Fin 12} {body : List Byte} {c : Instr} (hlen : body.length ≤ 200)
    (h : decodeReport n body = .command c) : Spells (fun c => reportLink c = some n) c body := by
  cases body with
  | nil => cases h
  | cons type rest =>
    by_cases hknown : 1 ≤ type.toNat ∧ type.toNat ≤ 3
    · exact (examinedReport n hknown.1 hknown.2 rest).command c hlen h
    · rw [decodeReport_unknown (by omega)] at h
      cases h

theorem decodeCommand_errors (type : Byte) (rest : List Byte) :
    (decodeCommand (type :: rest) = .unknownType ↔ type.toNat < 0x10 ∨ 0x30 < type.toNat) ∧
    (decodeCommand (type :: rest) = .wrongLength ↔
      0x10 ≤ type.toNat ∧ type.toNat ≤ 0x30 ∧ ¬ commandFits type.toNat rest) := by
  by_cases hknown : 0x10 ≤ type.toNat ∧ type.toNat ≤ 0x30
  · have hex := examinedCommand hknown.1 hknown.2 rest
    exact ⟨iff_of_false hex.known (by omega), hex.fits.trans (by simp only [hknown, true_and])⟩
  · rw [decodeCommand_unknown (by omega)]
    exact ⟨iff_of_true rfl (by omega), iff_of_false nofun fun h => hknown ⟨h.1, h.2.1⟩⟩

theorem decodeReport_errors (n : Fin 12) (type : Byte) (rest : List Byte) :
    (decodeReport n (type :: rest) = .unknownType ↔ type.toNat = 0 ∨ 3 < type.toNat) ∧
    (decodeReport n (type :: rest) = .wrongLength ↔
      1 ≤ type.toNat ∧ type.toNat ≤ 3 ∧ ¬ reportFits type.toNat rest) := by
  by_cases hknown : 1 ≤ type.toNat ∧ type.toNat ≤ 3
  · have hex := examinedReport n hknown.1 hknown.2 rest
    exact ⟨iff_of_false hex.known (by omega), hex.fits.trans (by simp only [hknown, true_and])⟩
  · rw [decodeReport_unknown (by omega)]
    exact ⟨iff_of_true rfl (by omega), iff_of_false nofun fun h => hknown ⟨h.1, h.2.1⟩⟩

/-- Settles O6: `Examined` type by type gives what is read and the two errors; the layouts are those of
`Instr.payload`. -/
theorem readingABodyLosesNothing : Obligations.ReadingABodyLosesNothing := by
  refine ⟨fun body c hlen => ⟨fun h => ?_, fun n h => ?_⟩, decodeCommand_errors, decodeReport_errors, word16Bytes_eq,
    fun _ _ _ _ _ _ _ _ => ⟨rfl, rfl, rfl⟩, fun tag recipe part w entries => ⟨?_, rfl, rfl⟩,
    fun tag recipe wafer first last position round hold kind slot rows cols ident => ?_,
    fun _ _ _ _ _ _ _ _ _ _ _ _ => ⟨rfl, rfl, rfl, rfl, rfl, rfl, rfl, rfl, rfl, rfl, rfl, rfl, rfl, rfl,
      rfl, rfl, rfl⟩,
    fun _ _ _ _ _ _ _ _ _ _ => ⟨rfl, rfl, rfl, rfl, rfl, rfl, rfl, rfl, rfl, rfl, rfl, rfl⟩⟩
  · have hspells := decodeCommand_spells hlen h
    exact ⟨hspells.wf, hspells.kind, hspells.body⟩
  · have hspells := decodeReport_spells hlen h
    exact ⟨hspells.wf, hspells.kind, hspells.body⟩
  · rfl
  · simp [Instr.body, Instr.code, Instr.payload]

end Sys2Proof.Machine
end

section
/-! PROOFS. Collating results (spec/04): reports that do not resolve, and one site result. -/

namespace Sys2Proof.Machine

open Sys2Proof.Safety

/-! ### Resolution (R52) -/

theorem State.resolve_malformed {s : State} {n : Fin 12} {aliasNo : Byte} (h : aliasNo.toNat = 0 ∨ 4 < aliasNo.toNat) :
    s.resolve n aliasNo = .malformed := by
  simp only [State.resolve, aliasOf_eq_none h]

theorem State.resolve_unbound {s : State} {n : Fin 12} {aliasNo : Byte} {a : Fin 4} (ha : aliasNo.toNat = a.val + 1)
    (h : s.testers[n].bindings[a].slot = none) : s.resolve n aliasNo = .unbound := by
  simp only [State.resolve, aliasOf_eq_some ha, h]

theorem State.resolve_notOpen {s : State} {n : Fin 12} {aliasNo : Byte} {a : Fin 4} {i : Fin 64}
    (ha : aliasNo.toNat = a.val + 1) (h : s.testers[n].bindings[a].slot = some i) (hi : s.slots[i].state ≠ .opened) :
    s.resolve n aliasNo = .notOpen := by
  simp only [State.resolve, aliasOf_eq_some ha, h, if_neg hi]

theorem resolve_of_resolvesTo {s : State} {n : Fin 12} {aliasNo : Byte} {a : Fin 4} {i : Fin 64}
    (h : ResolvesTo n aliasNo a i s) : s.resolve n aliasNo = .slot a i := by
  obtain ⟨ha, hslot, hopen⟩ := h
  simp only [State.resolve, aliasOf_eq_some ha, hslot, if_pos hopen]

/-- Taking a frame changes its link and the pointer, which no resolution reads. -/
theorem State.resolve_takeFrame (s : State) (n m : Fin 12) (aliasNo : Byte) :
    (s.takeFrame n).resolve m aliasNo = s.resolve m aliasNo := rfl

/-- The three ways a resolution ends a report. -/
theorem endsWith_cases {n : Fin 12} {aliasNo : Byte} {v : Verdict} {s : State} (h : EndsWith n aliasNo v s) :
    (s.resolve n aliasNo = .malformed ∧ v = .malformed) ∨ (s.resolve n aliasNo = .unbound ∧ v = .unbound) ∨
      (s.resolve n aliasNo = .notOpen ∧ v = .notOpen) := by
  obtain ⟨hbad, hv⟩ | ⟨a, ha, ⟨hslot, hv⟩ | ⟨i, hslot, hi, hv⟩⟩ := h
  · exact .inl ⟨State.resolve_malformed hbad, hv⟩
  · exact .inr (.inl ⟨State.resolve_unbound ha hslot, hv⟩)
  · exact .inr (.inr ⟨State.resolve_notOpen ha hslot hi, hv⟩)

/-- A report that the engine takes, from what its item comes to. -/
theorem exec_report {n : Fin 12} {c : Instr} {work : State → Report} {s t : State} {alerts : List Alert} {m : Message}
    (hexec : exec c s = engineReport n c work s) (h : EngineTakesReport n c s)
    (hwork : work (s.takeFrame n) = ⟨t, alerts, m⟩) : exec c s = .next (reported n alerts m t) := by
  rw [hexec, engineReport_taken h, hwork]
  rfl

theorem tdrFormOk_iff {count : Byte} {results : List Byte} :
    tdrFormOk count results = true ↔ 1 ≤ count.toNat ∧ count.toNat ≤ 32 ∧ results.length = 2 * count.toNat := by
  simp only [tdrFormOk, decide_eq_true_eq]

/-- Settles O23: the form check of a TDR, then the three ways a resolution ends a report. -/
theorem unresolvedReportsAreStopped : Obligations.UnresolvedReportsAreStopped := by
  refine ⟨fun n aliasNo count x0 y0 results s h => ⟨fun hbad => exec_report rfl h ?_,
      fun v h1 h2 h3 hend => exec_report rfl h ?_⟩, fun n aliasNo x y v s h hend => exec_report rfl h ?_,
    fun n aliasNo maxCount start v s h hend => exec_report rfl h ?_⟩
  · have hform : ¬ tdrFormOk count results = true := by
      rw [tdrFormOk_iff]
      omega
    rw [tdrItem, if_neg hform, tdaStop]
  · rw [tdrItem, if_pos (tdrFormOk_iff.2 ⟨h1, h2, h3⟩), State.resolve_takeFrame]
    obtain ⟨hr, rfl⟩ | ⟨hr, rfl⟩ | ⟨hr, rfl⟩ := endsWith_cases hend <;> rw [hr] <;> rfl
  · rw [clqItem, State.resolve_takeFrame]
    obtain ⟨hr, rfl⟩ | ⟨hr, rfl⟩ | ⟨hr, rfl⟩ := endsWith_cases hend <;> rw [hr] <;> rfl
  · rw [rtpItem, State.resolve_takeFrame]
    obtain ⟨hr, rfl⟩ | ⟨hr, rfl⟩ | ⟨hr, rfl⟩ := endsWith_cases hend <;> rw [hr] <;> rfl

/-! ### One site result (R53, R68 to R73) -/

theorem placeOf_beyond {sites : Vector SiteEntry 32} {sl : Slot} {x0 y0 : Int} {k : Nat} (h : 32 ≤ k) :
    placeOf sites sl x0 y0 k = .siteOff := dif_neg (not_lt.2 h)

theorem placeOf_site (sites : Vector SiteEntry 32) (sl : Slot) (x0 y0 : Int) (site : Fin 32) :
    placeOf sites sl x0 y0 site.val =
      if sites[site].enabled = false then .siteOff
      else if ¬ (0 ≤ x0 + sites[site].dx ∧ x0 + sites[site].dx < sl.cols ∧ 0 ≤ y0 + sites[site].dy ∧
        y0 + sites[site].dy < sl.rows) then .offMap
      else .cell site ((y0 + sites[site].dy).toNat * sl.cols + (x0 + sites[site].dx).toNat) := by
  unfold placeOf
  rw [dif_pos site.isLt, ite_not]
  cases h : sites[site].enabled <;> simp only [Fin.getElem_fin] at h <;> simp [h]

theorem Recipe.passes_eq (r : Recipe) (b : Fin 64) :
    (r.passes b).toNat = if r.entries[b].cls = .pass then 1 else 0 := by
  unfold Recipe.passes Recipe.classOf
  cases r.entries[b].cls <;> rfl

theorem Tallies.add_eq (r : Recipe) (b d : Fin 64) (t : Tallies) :
    (Tallies.add r b t).tested = t.tested + 1 ∧
    (Tallies.add r b t).passed = t.passed + (if r.entries[b].cls = .pass then 1 else 0) ∧
    (Tallies.add r b t).counts[d] = t.counts[d] + (if d = b then 1 else 0) := by
  refine ⟨rfl, by rw [← Recipe.passes_eq]; rfl, ?_⟩
  by_cases h : d = b
  · subst h; simp [Tallies.add]
  · have hval : b.val ≠ d.val := fun k => h (Fin.ext k.symm)
    simp [Tallies.add, h, hval]

theorem Tallies.move_eq (r : Recipe) {c k : Fin 64} (d : Fin 64) (t : Tallies) (hck : c ≠ k) :
    (Tallies.move r c k t).tested = t.tested ∧
    (Tallies.move r c k t).passed = t.passed + (if r.entries[k].cls = .pass then 1 else 0) -
      (if r.entries[c].cls = .pass then 1 else 0) ∧
    (Tallies.move r c k t).counts[d] =
      if d = k then t.counts[d] + 1 else if d = c then t.counts[d] - 1 else t.counts[d] := by
  refine ⟨rfl, by rw [← Recipe.passes_eq, ← Recipe.passes_eq]; rfl, ?_⟩
  simp only [Tallies.move, get_set]
  by_cases hdk : d = k
  · subst hdk
    rw [if_pos rfl, if_pos rfl, if_neg hck]
  · by_cases hdc : d = c
    · subst hdc
      rw [if_neg (Ne.symm hdk), if_neg hdk]
    · rw [if_neg (Ne.symm hdk), if_neg (Ne.symm hdc), if_neg hdk, if_neg hdc]

theorem State.wafer_of_identity {s : State} {i : Fin 64} {d : Identity} (h : s.slots[i].identity = some d) :
    s.wafer i = ⟨s.slots[i], s.lots[d.lot].totals, false⟩ := by simp only [State.wafer, h]

/-- Settles O25: the place of a site, the posting to a cell, and the tally moves. -/
theorem siteResultTable : Obligations.SiteResultTable := by
  refine ⟨fun r n sites x0 y0 k b w => ⟨fun hk => ?_, fun site hk => ?_⟩, fun _ _ _ => Recipe.binOf_eq_some,
    Tallies.add_eq, fun r c k d t hck => Tallies.move_eq r d t hck, fun _ _ _ => State.wafer_of_identity,
    fun _ _ => rfl, fun w i c => ⟨rfl, fun hwf => ⟨Memory.wf_write hwf, fun k => Memory.read_write hwf⟩⟩⟩
  · simp only [applySite, placeOf_beyond hk]
  · subst hk
    simp only [applySite, placeOf_site]
    by_cases hoff : sites[site].enabled = false
    · simp only [if_pos hoff]
    · simp only [if_neg hoff]
      by_cases hout : ¬ (0 ≤ x0 + sites[site].dx ∧ x0 + sites[site].dx < w.slot.cols ∧ 0 ≤ y0 + sites[site].dy ∧
          y0 + sites[site].dy < w.slot.rows)
      · simp only [if_pos hout]
      · simp only [if_neg hout]
        cases r.binOf b with
        | none => rfl
        | some bin =>
          generalize (y0 + sites[site].dy).toNat * w.slot.cols + (x0 + sites[site].dx).toNat = i
          simp only [postCell]
          cases (w.slot.cell i).status with
          | untested | forced | excluded => rfl
          | tested =>
            dsimp only
            split
            · rfl
            · split
              · rfl
              next hnew => rw [(r.keptBin_cases _ _).resolve_left hnew]

end Sys2Proof.Machine
end

section
/-! PROOFS. Reports that resolve (spec/04): the kept bin, the run state and the advice, a resolved TDR, CLQ and RTP. -/

namespace Sys2Proof.Machine

open Sys2Proof.Safety

/-! ### The kept bin (R72) -/

section KeptBin

variable {r : Recipe} {c s : Fin 64}

theorem Recipe.keptBin_last (h : r.scalars.policy = .last) : r.keptBin c s = s := by simp only [Recipe.keptBin, h]

theorem Recipe.keptBin_best (h : r.scalars.policy = .best) :
    r.keptBin c s = if r.entries[c].rank < r.entries[s].rank then c else s := by simp only [Recipe.keptBin, h]

theorem Recipe.keptBin_stickyPass (h : r.scalars.policy = .stickyPass) :
    r.keptBin c s = if r.entries[c].cls = .pass then c else s := by
  simp only [Recipe.keptBin, h, Recipe.passes, Recipe.classOf, beq_iff_eq]

end KeptBin

/-- R70, R71: the outcome of a posting to a TESTED cell that has attempts left. -/
theorem applySite_retest {r : Recipe} {n : Fin 12} {sites : Vector SiteEntry 32} {x0 y0 : Int} {k b i : Nat}
    {site : Fin 32} {s : Fin 64} {w : Wafer} (hplace : placeOf sites w.slot x0 y0 k = .cell site i)
    (hb : r.binOf b = some s) (ht : (w.slot.cell i).status = .tested)
    (hlim : (w.slot.cell i).attempts < r.scalars.attemptLimit) : (applySite r n sites x0 y0 (k, b) w).2 =
      if r.keptBin (w.slot.cell i).bin s = (w.slot.cell i).bin then .kept else .appliedRetest := by
  simp only [applySite, hplace, hb, postCell, ht, if_neg (not_le.2 hlim)]
  split <;> rfl

/-- Settles O26: the policies one by one, and the outcome by whether the kept bin is the old one. -/
theorem keptBinFollowsThePolicy : Obligations.KeptBinFollowsThePolicy := by
  refine ⟨fun r c s => ⟨Recipe.keptBin_last, fun h => ⟨fun hlt => ?_, fun hle => ?_⟩,
      fun h => ⟨fun hp => ?_, fun hf => ?_⟩⟩,
    fun r n sites x0 y0 k b i site s w hplace hb ht hlim => ?_, fun _ _ _ _ _ _ _ _ => ⟨rfl, rfl⟩⟩
  · rw [Recipe.keptBin_best h, if_pos hlt]
  · rw [Recipe.keptBin_best h, if_neg (not_lt.2 hle)]
  · rw [Recipe.keptBin_stickyPass h, if_pos hp]
  · rw [Recipe.keptBin_stickyPass h, if_neg (by rw [hf]; nofun)]
  · have hout := applySite_retest (n := n) hplace hb ht hlim
    refine ⟨hout, fun hpol hne => ?_, fun hpol hne hrank => ?_⟩
    · rw [hout, Recipe.keptBin_last hpol, if_neg hne]
    · rw [hout, Recipe.keptBin_best hpol, hrank, if_neg (lt_irrefl _), if_neg hne]

/-! ### The run state and the advice (R56, R57, R79) -/

/-- R56: a counted outcome comes of a posted bin that is defined. -/
theorem applySite_taken {r : Recipe} {n : Fin 12} {sites : Vector SiteEntry 32} {x0 y0 : Int} {k b : Nat} {w : Wafer}
    (h : (applySite r n sites x0 y0 (k, b) w).2.taken = true) : ∃ s : Fin 64, r.binOf b = some s := by
  cases hb : r.binOf b with
  | some s => exact ⟨s, rfl⟩
  | none =>
    simp only [applySite, hb] at h
    split at h <;> cases h

theorem taken_iff (o : SiteOutcome) : o.taken = true ↔ o = .appliedNew ∨ o = .appliedRetest ∨ o = .kept := by
  cases o <;> simp [SiteOutcome.taken]

theorem runStep_eq (r : Recipe) (e : Binding) (b : Fin 64) : runStep r e b =
    if r.scalars.runLimit = 0 then e
    else if r.entries[b].cls = .pass then { e with runBin := none, runLength := 0 }
    else
      let length := if e.runBin = some b then min (e.runLength + 1) r.scalars.runLimit else 1
      { e with
        runBin := some b, runLength := length
        alarm := if r.scalars.runLimit ≤ length then true else e.alarm } := by
  have hor : ∀ (a : Bool) (p : Prop) [Decidable p], (a || decide p) = if p then true else a := by
    intro a p _
    by_cases h : p <;> simp [h]
  simp only [runStep, Recipe.passes, Recipe.classOf, beq_iff_eq, hor]

theorem adviceOf_eq (stopAll alarm : Bool) (r : Recipe) (l : LimitStates) : adviceOf stopAll alarm r l =
    if stopAll = true then .stop else if alarm = true then .pause
    else if r.scalars.advice = .pause ∧ (l.yield = .breach ∨ ∃ b : Fin 64, l.bins[b] = .breach) then .pause
    else .continue := by
  simp only [adviceOf, LimitStates.active_iff]

/-- Settles O29: the counted bins, one step of the run state, and the advice. -/
theorem runStateAndAdvice : Obligations.RunStateAndAdvice := by
  refine ⟨fun _ _ _ => ⟨rfl, rfl, rfl⟩, fun r k b o ps os => ⟨rfl, ?_⟩, fun r n sites x0 y0 k b w h => ?_, runStep_eq,
    fun _ _ _ _ _ _ _ => ⟨rfl, rfl⟩, adviceOf_eq⟩
  · simp only [countedBins, List.zip_cons_cons, List.filterMap_cons]
    cases o <;> cases r.binOf b <;> rfl
  · obtain ⟨s, hs⟩ := applySite_taken ((taken_iff _).2 h)
    exact ⟨s, hs, (Recipe.binOf_eq_some.1 hs).1⟩

/-! ### A resolved TDR (R68 to R80) -/

theorem applySites_length (r : Recipe) (n : Fin 12) (sites : Vector SiteEntry 32) (x0 y0 : Int)
    (ps : List (Nat × Nat)) (w : Wafer) : (applySites r n sites x0 y0 ps w).2.length = ps.length := by
  induction ps generalizing w with
  | nil => rfl
  | cons p rest ih => exact congrArg (· + 1) (ih _)

theorem siteResults_length {l : List Byte} {n : Nat} (h : l.length = 2 * n) : (siteResults l).length = n := by
  induction n generalizing l with
  | zero => rw [List.eq_nil_of_length_eq_zero h]; rfl
  | succ n ih =>
    match l, h with
    | a :: b :: rest, h => exact congrArg (· + 1) (ih (l := rest) (by simp only [List.length_cons] at h; omega))

theorem settle_lots_of_none {s : State} {i : Fin 64} {w : Wafer} (h : w.slot.identity = none) :
    (s.settle i w).1.lots = s.lots := by
  have hcommit : (s.commit i w).lots = s.lots := by simp [State.commit, State.putWafer, h]
  cases hm : w.moved with
  | false =>
    rw [State.settle_of_not_moved hm]
    exact hcommit
  | true =>
    have hslot : (s.commit i w).slots[i].identity = none := by simp [commit_slots, h]
    rw [State.settle_of_moved hm]
    simp only [State.evaluateBoth, hslot, State.evaluateSlot_lots, hcommit]

theorem any_taken_iff (l : List SiteOutcome) :
    l.any SiteOutcome.taken = true ↔ .appliedNew ∈ l ∨ .appliedRetest ∈ l ∨ .kept ∈ l := by
  simp only [List.any_eq_true, taken_iff]
  grind

theorem tdrItem_slot {n : Fin 12} {aliasNo count : Byte} {x0 y0 : Word16} {results : List Byte} {a : Fin 4} {i : Fin 64}
    {s : State} (hform : tdrFormOk count results = true) (hres : s.resolve n aliasNo = .slot a i) :
    tdrItem n aliasNo x0 y0 count results s = tdrApply n aliasNo x0 y0 results a i s := by
  rw [tdrItem, if_pos hform, hres]

/-- R79: the advice of a report reads the stop-all flag, the entry as set, and the slot's recipe and limit states. -/
theorem adviceFor_setBinding (t : State) (n : Fin 12) (a : Fin 4) (i : Fin 64) (e : Binding) :
    (t.setBinding n a e).adviceFor n a i = adviceOf t.stopAll e.alarm (t.recipeOfSlot i) t.slots[i].limits := by
  have hb : (t.setBinding n a e).testers[n].bindings[a] = e := by
    simp only [State.setBinding, State.setTester, get_set_self]
  rw [State.adviceFor, hb]
  rfl

/-- Settles O24: `tdrApply` step by step, and what `State.settle` leaves alone. -/
theorem resolvedReportIsApplied : Obligations.ResolvedReportIsApplied := by
  intro n aliasNo count x0 y0 results a i s h h1 h2 h3 hres
  obtain ⟨w, outcomes, hp⟩ : ∃ w outcomes, applySites (s.recipeOfSlot i) n s.testers[n].sites x0.toInt y0.toInt
    (siteResults results) (s.wafer i) = (w, outcomes) := ⟨_, _, rfl⟩
  obtain ⟨t, limitAlerts, ht⟩ : ∃ t alerts, (s.takeFrame n).settle i w = (t, alerts) := ⟨_, _, rfl⟩
  obtain ⟨e, runAlerts, he⟩ : ∃ e alerts, runSteps (s.recipeOfSlot i) n a i
    (countedBins (s.recipeOfSlot i) (siteResults results) outcomes) s.testers[n].bindings[a] = (e, alerts) :=
    ⟨_, _, rfl⟩
  have hlen : outcomes.length = count.toNat := by
    have := applySites_length (s.recipeOfSlot i) n s.testers[n].sites x0.toInt y0.toInt (siteResults results)
      (s.wafer i)
    rwa [hp, siteResults_length h3] at this
  have hsame : SameWafer s.slots[i] w.slot := by
    have := (applySites_steps (s.recipeOfSlot i) n s.testers[n].sites x0.toInt y0.toInt (siteResults results)
      (s.wafer i)).sameWafer
    rwa [hp] at this
  have ht1 : t = ((s.takeFrame n).settle i w).1 := by rw [ht]
  obtain ⟨l, -, hslots⟩ := settle_slots_marked (s.takeFrame n) i w
  rw [← ht1] at hslots
  have hself : t.slots[i] = { w.slot with limits := l } := by rw [hslots, get_set_self]
  have htesters : t.testers = s.testers := ht1 ▸ State.settle_testers ..
  have hstop : t.stopAll = s.stopAll := ht1 ▸ State.settle_stopAll ..
  have hrecipes : t.recipes = s.recipes := ht1 ▸ State.settle_recipes ..
  have hrecipe : t.recipeOfSlot i = s.recipeOfSlot i := by
    simp only [State.recipeOfSlot, hself, hsame.recipe]
    cases s.slots[i].recipe with
    | none => rfl
    | some r => simp only [State.recipeAt, hrecipes]
  refine ⟨w, outcomes, t, limitAlerts, runAlerts, e, hp, hlen, ht, he, exec_report rfl h ?_, fun j hj => ?_,
    fun k hk => ?_, htesters, hrecipes, ht1 ▸ State.settle_directory ..⟩
  · have happly : tdrApply n aliasNo x0 y0 results a i (s.takeFrame n) = ⟨t.setBinding n a e, limitAlerts ++ runAlerts,
        .tda aliasNo (if outcomes.any SiteOutcome.taken then .ok else .noneTaken) ((t.setBinding n a e).adviceFor n a i)
          outcomes⟩ := by
      have hp' : applySites ((s.takeFrame n).recipeOfSlot i) n (s.takeFrame n).testers[n].sites x0.toInt y0.toInt
        (siteResults results) ((s.takeFrame n).wafer i) = (w, outcomes) := hp
      have he' : runSteps ((s.takeFrame n).recipeOfSlot i) n a i (countedBins ((s.takeFrame n).recipeOfSlot i)
        (siteResults results) outcomes) (s.takeFrame n).testers[n].bindings[a] = (e, runAlerts) := he
      simp only [tdrApply, hp', ht, he']
    rw [tdrItem_slot (tdrFormOk_iff.2 ⟨h1, h2, h3⟩)
      ((State.resolve_takeFrame ..).trans (resolve_of_resolvesTo hres)), happly, adviceFor_setBinding, hstop, hrecipe]
    simp only [any_taken_iff]
    rfl
  · rw [hslots]
    exact get_set_ne _ _ (Ne.symm hj)
  · rw [ht1]
    cases hd : w.slot.identity with
    | none => rw [settle_lots_of_none hd]; rfl
    | some d =>
      obtain ⟨l, -, hlots⟩ := settle_lots (s := s.takeFrame n) hd
      rw [hlots]
      refine get_set_ne _ _ fun hdk => hk ?_
      rw [← hsame.identity, hd, ← hdk]
      rfl

/-! ### CLQ (R81, R82) -/

theorem retestAllowed_iff (r : Recipe) (c : Cell) : r.retestAllowed c = true ↔ c.status = .tested ∧
    r.entries[c.bin].cls = .fail ∧ r.entries[c.bin].eligible = true ∧ c.attempts < r.scalars.attemptLimit := by
  simp only [Recipe.retestAllowed, Bool.and_eq_true, beq_iff_eq, decide_eq_true_eq, and_assoc]

/-- Settles O27: `clqItem` on the slot the alias resolves to. -/
theorem cellQueryAnswersTheCell : Obligations.CellQueryAnswersTheCell := by
  intro n aliasNo x y a i s h hres
  refine exec_report rfl h ?_
  rw [clqItem, State.resolve_takeFrame, resolve_of_resolvesTo hres]
  have hretest : ∀ (r : Recipe) (c : Cell), r.retestAllowed c = decide (c.status = .tested ∧
      r.entries[c.bin].cls = .fail ∧ r.entries[c.bin].eligible = true ∧ c.attempts < r.scalars.attemptLimit) :=
    fun r c => Bool.eq_iff_iff.2 ((retestAllowed_iff r c).trans decide_eq_true_iff.symm)
  simp only [← hretest]
  by_cases hin : x.toNat < s.slots[i].cols ∧ y.toNat < s.slots[i].rows
  · rw [if_pos hin]
    exact if_pos hin
  · rw [if_neg hin]
    exact if_neg hin

/-! ### RTP (R83, R84) -/

theorem mem_retestCells {r : Recipe} {sl : Slot} {start k : Nat} : k ∈ retestCells r sl start ↔
    k < sl.size ∧ start ≤ k ∧ r.retestAllowed (sl.cell k) = true := by
  rw [retestCells, List.mem_filter, List.mem_range'_1]
  grind

theorem retestCells_pairwise (r : Recipe) (sl : Slot) (start : Nat) : (retestCells r sl start).Pairwise (· < ·) :=
  (List.pairwise_lt_range' ..).filter _

theorem clampRange_most (v : Nat) : clampRange 1 16 v = if v = 0 then 1 else min v 16 := by
  unfold clampRange
  grind

/-- R84: END when nothing is passed over. -/
theorem continuation_of_all_listed {l : List Nat} {m : Nat} (h : ∀ k ∈ l, k ∈ l.take m) (hl : l.Pairwise (· < ·)) :
    continuation l (l.take m) = none := by
  refine if_pos ?_
  exact (List.subperm_of_subset (hl.imp fun h => ne_of_lt h) h).length_le

/-- R84: one above the last listed when a cell is passed over. -/
theorem continuation_of_passed_over {l : List Nat} {m k : Nat} (hk : k ∈ l) (h : k ∉ l.take m) :
    continuation l (l.take m) = (l.take m).getLast?.map (· + 1) := by
  refine if_neg fun hle => h ?_
  rwa [List.take_of_length_le (by rw [List.length_take] at hle; omega)]

/-- Settles O28: the list is the beginning of `retestCells`, which ascends. -/
theorem retestPickWalksTheMap : Obligations.RetestPickWalksTheMap := by
  refine ⟨fun n aliasNo maxCount start a i s h hres => ?_, retestAllowed_iff⟩
  have hsorted := retestCells_pairwise (s.recipeOfSlot i) s.slots[i] start.toNat
  rw [← clampRange_most]
  refine ⟨(retestCells (s.recipeOfSlot i) s.slots[i] start.toNat).take (clampRange 1 16 maxCount.toNat),
    continuation (retestCells (s.recipeOfSlot i) s.slots[i] start.toNat)
      ((retestCells (s.recipeOfSlot i) s.slots[i] start.toNat).take (clampRange 1 16 maxCount.toNat)),
    exec_report rfl h ?_, List.length_take_le .., hsorted.sublist (List.take_sublist ..),
    fun k hk => mem_retestCells.1 (List.mem_of_mem_take hk), fun k hk hnot => ?_, fun hall => ?_⟩
  · rw [rtpItem, State.resolve_takeFrame, resolve_of_resolvesTo hres]
    rfl
  · have hmem := mem_retestCells.2 hk
    obtain ⟨hlen, hlt⟩ := not_mem_take_of_pairwise hsorted hmem hnot
    exact ⟨hlen, hlt, continuation_of_passed_over hmem hnot⟩
  · exact continuation_of_all_listed (fun k hk => hall k (mem_retestCells.1 hk)) hsorted

end Sys2Proof.Machine
end

section
/-! PROOFS. Overrides (spec/04, R85 to R92): one cell forced and released, and the cells of a rectangle excluded and
included, counted over the map. -/

namespace Sys2Proof.Machine

open Sys2Proof.Safety

/-! ### The ends of an engine item -/

section EngineItem

variable {c : Instr} {work : State → Item} {s : State}

theorem exec_engine (hexec : exec c s = engineCommand c work s) (h : EngineTakes c s) :
    exec c s = .next (work s).finish := hexec.trans (engineCommand_taken h)

theorem refuses_of_work {tag : Byte} {status : Status} (hexec : exec c s = engineCommand c work s)
    (h : EngineTakes c s) (hwork : work s = .refuse c tag status s) : Refuses c tag status s := by
  rw [Refuses, exec_engine hexec h, hwork, Item.finish_refuse]

end EngineItem

/-! ### The slot checks of an override (R85) -/

section OverrideItem

variable {c : Instr} {tag slot : Byte} {work : Fin 64 → State → Item} {s : State} {i : Fin 64}

theorem overrideItem_badField (h : 64 ≤ slot.toNat) : overrideItem c tag slot work s = .refuse c tag .badField s := by
  rw [overrideItem, slotOf_eq_none h]

theorem overrideItem_wrongState (h : slot.toNat = i.val) (hi : s.slots[i].state ≠ .opened) :
    overrideItem c tag slot work s = .refuse c tag .wrongState s := by
  rw [overrideItem, slotOf_eq_some h]
  exact if_neg hi

theorem overrideItem_opened (h : slot.toNat = i.val) (hi : s.slots[i].state = .opened) :
    overrideItem c tag slot work s = work i s := by
  rw [overrideItem, slotOf_eq_some h]
  exact if_pos hi

end OverrideItem

/-! ### FRCL and UFCL (R86 to R88) -/

/-- R87: which tally move forcing a cell makes. -/
theorem forceCell_eq {r : Recipe} {k : Nat} {b : Fin 64} {w : Wafer} (h : (w.slot.cell k).status ≠ .excluded) :
    forceCell r k b w =
      if (w.slot.cell k).status = .untested then
        (w.write k ⟨.forced, b, (w.slot.cell k).attempts, none⟩).tally (Tallies.add r b)
      else if (w.slot.cell k).bin = b then w.write k ⟨.forced, b, (w.slot.cell k).attempts, none⟩
      else (w.write k ⟨.forced, b, (w.slot.cell k).attempts, none⟩).tally (Tallies.move r (w.slot.cell k).bin b) := by
  cases hs : (w.slot.cell k).status with
  | untested => simp only [forceCell, hs, if_true]
  | tested | forced => simp only [forceCell, hs, reduceCtorEq, if_false]
  | excluded => exact absurd hs h

/-- Settles O30: the checks of each command in order, each either the refusal or what the command does. -/
theorem forceAndUnforceCell : Obligations.ForceAndUnforceCell := by
  refine ⟨fun tag slot x y bin s h => ⟨fun hslot => refuses_of_work rfl h (overrideItem_badField hslot),
    fun i hslot => ?_⟩, fun tag slot x y s h => ⟨fun hslot => refuses_of_work rfl h (overrideItem_badField hslot),
    fun i hslot => ?_⟩⟩
  · rw [exec_engine rfl h]
    refine congrArg _ ?_
    by_cases hopen : s.slots[i].state = .opened
    · rw [if_neg (not_not.2 hopen), overrideItem_opened hslot hopen, frclWork]
      by_cases hin : x.toNat < s.slots[i].cols ∧ y.toNat < s.slots[i].rows
      · rw [if_neg (not_not.2 hin)]
        simp only [if_pos hin]
        by_cases hex : (s.slots[i].cell (y.toNat * s.slots[i].cols + x.toNat)).status = .excluded
        · rw [if_pos hex, if_pos hex]
          exact Item.finish_refuse ..
        · rw [if_neg hex, if_neg hex]
          cases (s.recipeOfSlot i).binOf bin.toNat with
          | none => exact Item.finish_refuse ..
          | some b =>
            refine (Item.finish_alerts ..).trans ?_
            rw [forceCell_eq (w := s.wafer i) hex]
            rfl
      · rw [if_pos hin]
        simp only [if_neg hin]
        exact Item.finish_refuse ..
    · rw [if_pos hopen, overrideItem_wrongState hslot hopen]
      exact Item.finish_refuse ..
  · rw [exec_engine rfl h]
    refine congrArg _ ?_
    by_cases hopen : s.slots[i].state = .opened
    · rw [if_neg (not_not.2 hopen), overrideItem_opened hslot hopen, ufclWork]
      by_cases hin : x.toNat < s.slots[i].cols ∧ y.toNat < s.slots[i].rows
      · rw [if_neg (not_not.2 hin)]
        simp only [if_pos hin]
        by_cases hf : (s.slots[i].cell (y.toNat * s.slots[i].cols + x.toNat)).status = .forced
        · rw [if_pos hf, if_neg (not_not.2 hf)]
          exact Item.finish_ok ..
        · rw [if_neg hf, if_pos hf]
          exact Item.finish_refuse ..
      · rw [if_pos hin]
        simp only [if_neg hin]
        exact Item.finish_refuse ..
    · rw [if_pos hopen, overrideItem_wrongState hslot hopen]
      exact Item.finish_refuse ..

/-! ### The cells of a rectangle rewritten (R89 to R91) -/

/-- The cells of the list that `p` holds of have become `c`, and no other cell has changed. -/
structure Rewritten (p : Cell → Bool) (c : Cell) (l : List Nat) (a b : Slot) : Prop where
  wf : b.cells.wf = true
  cell : ∀ j, b.cell j = if j ∈ l ∧ p (a.cell j) = true then c else a.cell j

namespace Rewritten

variable {p : Cell → Bool} {c : Cell} {l : List Nat} {k : Nat} {a b d : Slot}

theorem of_write (hwf : a.cells.wf = true) (hp : p (a.cell k) = true) (hb : b.cells = a.cells.write k c) :
    Rewritten p c [k] a b := by
  refine ⟨hb ▸ Memory.wf_write hwf, fun j => ?_⟩
  rw [Slot.cell, hb, Memory.read_write hwf]
  by_cases hj : j = k
  · rw [if_pos hj, if_pos ⟨List.mem_singleton.2 hj, hj ▸ hp⟩]
  · rw [if_neg hj, if_neg fun h => hj (List.mem_singleton.1 h.1)]
    rfl

theorem of_not (hwf : a.cells.wf = true) (hp : ¬ p (a.cell k) = true) (hb : b.cells = a.cells) :
    Rewritten p c [k] a b := by
  refine ⟨hb ▸ hwf, fun j => ?_⟩
  have hnot : ¬ (j ∈ [k] ∧ p (a.cell j) = true) := by
    rintro ⟨hj, hpj⟩
    exact hp (List.mem_singleton.1 hj ▸ hpj)
  rw [if_neg hnot, Slot.cell, hb]
  rfl

theorem cell_of_ne (h : Rewritten p c [k] a b) (hk : k ∉ l) {j : Nat} (hj : j ∈ l) : b.cell j = a.cell j := by
  rw [h.cell j, if_neg]
  rintro ⟨hjk, -⟩
  exact hk (List.mem_singleton.1 hjk ▸ hj)

theorem cons (h : Rewritten p c [k] a b) (hk : k ∉ l) (hl : Rewritten p c l b d) : Rewritten p c (k :: l) a d := by
  refine ⟨hl.wf, fun j => ?_⟩
  rw [hl.cell j]
  by_cases hj : j ∈ l
  · rw [h.cell_of_ne hk hj]
    simp only [hj, true_and, List.mem_cons, or_true]
  · rw [if_neg fun h => hj h.1, h.cell j]
    simp only [List.mem_cons, List.not_mem_nil, hj, or_false]

/-- A count over cells that are not rewritten. -/
theorem countP_eq (h : Rewritten p c [k] a b) (hk : k ∉ l) (q : Cell → Bool) :
    l.countP (fun j => q (b.cell j)) = l.countP fun j => q (a.cell j) :=
  List.countP_congr fun j hj => by rw [h.cell_of_ne hk hj]

end Rewritten

theorem countP_singleton_add (q : Nat → Bool) (k : Nat) (l : List Nat) :
    (k :: l).countP q = [k].countP q + l.countP q := List.countP_append (l₁ := [k])

/-! ### Tallies of excluded cells (R90) -/

/-- The bins of the TESTED and FORCED cells of a list. -/
def testedBins (sl : Slot) (l : List Nat) : List (Fin 64) :=
  l.filterMap fun k => if isTested (sl.cell k) = true then some (sl.cell k).bin else none

/-- The counts after cells of these bins have left. -/
def removeAll (r : Recipe) (bins : List (Fin 64)) (t : Tallies) : Tallies :=
  bins.foldl (fun t b => Tallies.remove r b t) t

theorem testedBins_cons (sl : Slot) (k : Nat) (l : List Nat) :
    testedBins sl (k :: l) = testedBins sl [k] ++ testedBins sl l := List.filterMap_append (l := [k])

theorem removeAll_append (r : Recipe) (a b : List (Fin 64)) (t : Tallies) :
    removeAll r (a ++ b) t = removeAll r b (removeAll r a t) := List.foldl_append ..

theorem testedBins_countP (sl : Slot) (l : List Nat) (q : Fin 64 → Bool) :
    (testedBins sl l).countP q = l.countP fun k => isTested (sl.cell k) && q (sl.cell k).bin := by
  rw [testedBins, List.countP_filterMap]
  refine List.countP_congr fun k _ => ?_
  cases isTested (sl.cell k) <;> simp

theorem removeAll_tested (r : Recipe) (bins : List (Fin 64)) (t : Tallies) :
    (removeAll r bins t).tested = t.tested - bins.length := by
  induction bins generalizing t with
  | nil => rfl
  | cons b bins ih =>
    refine (ih _).trans ?_
    rw [List.length_cons]
    simp only [Tallies.remove]
    omega

theorem removeAll_passed (r : Recipe) (bins : List (Fin 64)) (t : Tallies) :
    (removeAll r bins t).passed = t.passed - bins.countP r.passes := by
  induction bins generalizing t with
  | nil => rfl
  | cons b bins ih =>
    refine (ih _).trans ?_
    rw [List.countP_cons]
    cases hp : r.passes b with
    | false => simp [Tallies.remove, hp]
    | true =>
      simp only [Tallies.remove, hp, Bool.toNat_true, if_true]
      omega

theorem removeAll_counts (r : Recipe) (bins : List (Fin 64)) (t : Tallies) (b : Fin 64) :
    (removeAll r bins t).counts[b] = t.counts[b] - bins.countP (· == b) := by
  induction bins generalizing t with
  | nil => rfl
  | cons c bins ih =>
    refine (ih _).trans ?_
    rw [List.countP_cons]
    simp only [Tallies.remove]
    rw [get_set]
    by_cases h : c = b
    · subst h
      simp only [if_true, beq_self_eq_true]
      omega
    · simp only [h, if_false, beq_iff_eq, Nat.add_zero]

/-! ### EXCL: the fold over the rectangle -/

/-- What excluding the cells of a list leaves. -/
structure ExcludedAll (r : Recipe) (l : List Nat) (w v : Wafer) : Prop where
  cells : Rewritten (fun c => c.status != .excluded) Cell.excludedCell l w.slot v.slot
  mapSize : v.slot.mapSize = w.slot.mapSize - l.countP fun k => (w.slot.cell k).status != .excluded
  tallies : v.slot.tallies = removeAll r (testedBins w.slot l) w.slot.tallies
  totals : v.totals = removeAll r (testedBins w.slot l) w.totals
  moved : v.moved = true ↔ w.moved = true ∨ 0 < l.countP fun k => isTested (w.slot.cell k)
  frame : v.slot = { w.slot with cells := v.slot.cells, mapSize := v.slot.mapSize, tallies := v.slot.tallies }

theorem excludedAll_nil {r : Recipe} {w : Wafer} (hwf : w.slot.cells.wf = true) : ExcludedAll r [] w w where
  cells := ⟨hwf, fun j => by simp only [List.not_mem_nil, false_and, if_false]⟩
  mapSize := rfl
  tallies := rfl
  totals := rfl
  moved := (or_iff_left (lt_irrefl 0)).symm
  frame := rfl

/-- R90: one cell, by its status. -/
theorem excludedAll_single {r : Recipe} {w : Wafer} (hwf : w.slot.cells.wf = true) (k : Nat) :
    ExcludedAll r [k] w (excludeCell r k w) := by
  obtain hu | he | ht := isTested_cases (w.slot.cell k)
  · have hnt : isTested (w.slot.cell k) = false := by rw [isTested, hu]; rfl
    rw [excludeCell_of_untested hu]
    exact ⟨.of_write hwf (by rw [hu]; rfl) rfl, by simp [hu], by simp [testedBins, hnt, removeAll],
      by simp [testedBins, hnt, removeAll], by simp [hnt], rfl⟩
  · have hnt : isTested (w.slot.cell k) = false := by rw [isTested, he]; rfl
    rw [excludeCell_of_excluded he]
    exact ⟨.of_not hwf (by rw [he]; simp) rfl, by simp [he], by simp [testedBins, hnt, removeAll],
      by simp [testedBins, hnt, removeAll], by simp [hnt], rfl⟩
  · have hne : (w.slot.cell k).status ≠ .excluded := by rintro he; rw [isTested, he] at ht; cases ht
    rw [excludeCell_of_tested ht]
    exact ⟨.of_write hwf (bne_iff_ne.2 hne) rfl, by simp [hne], by simp [testedBins, ht, removeAll],
      by simp [testedBins, ht, removeAll], by simp [ht], rfl⟩

theorem ExcludedAll.cons {r : Recipe} {l : List Nat} {k : Nat} {w u v : Wafer} (h : ExcludedAll r [k] w u) (hk : k ∉ l)
    (hl : ExcludedAll r l u v) : ExcludedAll r (k :: l) w v := by
  have hbins : testedBins u.slot l = testedBins w.slot l :=
    List.filterMap_congr fun j hj => by rw [h.cells.cell_of_ne hk hj]
  refine ⟨h.cells.cons hk hl.cells, ?_, ?_, ?_, ?_, ?_⟩
  · rw [hl.mapSize, h.mapSize, h.cells.countP_eq hk fun c => c.status != .excluded, countP_singleton_add _ k l,
      Nat.sub_add_eq]
  · rw [hl.tallies, h.tallies, hbins, testedBins_cons _ k l, removeAll_append]
  · rw [hl.totals, h.totals, hbins, testedBins_cons _ k l, removeAll_append]
  · rw [hl.moved, h.moved, h.cells.countP_eq hk isTested, countP_singleton_add _ k l, or_assoc,
      Nat.add_pos_iff_pos_or_pos]
  · rw [hl.frame, h.frame]

theorem foldl_excludeCell (r : Recipe) {l : List Nat} (hl : l.Nodup) {w : Wafer} (hwf : w.slot.cells.wf = true) :
    ExcludedAll r l w (l.foldl (fun w k => excludeCell r k w) w) := by
  induction l generalizing w with
  | nil => exact excludedAll_nil hwf
  | cons k l ih =>
    obtain ⟨hk, hl⟩ := List.nodup_cons.1 hl
    have hone := excludedAll_single (r := r) hwf k
    exact hone.cons hk (ih hl hone.cells.wf)

/-! ### INCL: the fold over the rectangle -/

/-- What including the cells of a list leaves. -/
structure IncludedAll (l : List Nat) (w v : Wafer) : Prop where
  cells : Rewritten (fun c => c.status == .excluded) Cell.blank l w.slot v.slot
  mapSize : v.slot.mapSize = w.slot.mapSize + l.countP fun k => (w.slot.cell k).status == .excluded
  totals : v.totals = w.totals
  frame : v.slot = { w.slot with cells := v.slot.cells, mapSize := v.slot.mapSize }

theorem includedAll_nil {w : Wafer} (hwf : w.slot.cells.wf = true) : IncludedAll [] w w where
  cells := ⟨hwf, fun j => by simp only [List.not_mem_nil, false_and, if_false]⟩
  mapSize := rfl
  totals := rfl
  frame := rfl

/-- R91: one cell, by whether it is EXCLUDED. -/
theorem includedAll_single {w : Wafer} (hwf : w.slot.cells.wf = true) (k : Nat) :
    IncludedAll [k] w (includeCell k w) := by
  by_cases he : (w.slot.cell k).status = .excluded
  · rw [includeCell_of_excluded he]
    exact ⟨.of_write hwf (beq_iff_eq.2 he) rfl, by simp [he], rfl, rfl⟩
  · rw [includeCell_of_not_excluded he]
    exact ⟨.of_not hwf (mt beq_iff_eq.1 he) rfl, by simp [he], rfl, rfl⟩

theorem IncludedAll.cons {l : List Nat} {k : Nat} {w u v : Wafer} (h : IncludedAll [k] w u) (hk : k ∉ l)
    (hl : IncludedAll l u v) : IncludedAll (k :: l) w v := by
  refine ⟨h.cells.cons hk hl.cells, ?_, hl.totals.trans h.totals, ?_⟩
  · rw [hl.mapSize, h.mapSize, h.cells.countP_eq hk fun c => c.status == .excluded, countP_singleton_add _ k l,
      Nat.add_assoc]
  · rw [hl.frame, h.frame]

theorem foldl_includeCell {l : List Nat} (hl : l.Nodup) {w : Wafer} (hwf : w.slot.cells.wf = true) :
    IncludedAll l w (l.foldl (fun w k => includeCell k w) w) := by
  induction l generalizing w with
  | nil => exact includedAll_nil hwf
  | cons k l ih =>
    obtain ⟨hk, hl⟩ := List.nodup_cons.1 hl
    have hone := includedAll_single hwf k
    exact hone.cons hk (ih hl hone.cells.wf)

/-! ### The rectangle as a part of the map (R89) -/

section Rectangle

variable {sl : Slot} {x1 y1 x2 y2 : Nat}

/-- R89: a cell of the map lies in the rectangle of the two corners brought onto the grid. -/
def insideRectangle (sl : Slot) (x1 y1 x2 y2 k : Nat) : Bool :=
  decide (k < sl.size ∧ min (min x1 (sl.cols - 1)) (min x2 (sl.cols - 1)) ≤ k % sl.cols ∧
    k % sl.cols ≤ max (min x1 (sl.cols - 1)) (min x2 (sl.cols - 1)) ∧
    min (min y1 (sl.rows - 1)) (min y2 (sl.rows - 1)) ≤ k / sl.cols ∧
    k / sl.cols ≤ max (min y1 (sl.rows - 1)) (min y2 (sl.rows - 1)))

theorem clampCorner_eq {size v : Nat} (_ : 1 ≤ size) : clampCorner size v = min v (size - 1) := by
  unfold clampCorner
  grind

theorem mem_rectangle (hc : 1 ≤ sl.cols) (hr : 1 ≤ sl.rows) {k : Nat} :
    k ∈ rectangle sl x1 y1 x2 y2 ↔ insideRectangle sl x1 y1 x2 y2 k = true := by
  rw [insideRectangle, decide_eq_true_eq]
  constructor
  · intro h
    refine ⟨rectangle_lt hr hc h, ?_⟩
    simp only [rectangle, List.mem_flatMap, List.mem_map, List.mem_range'_1, clampCorner_eq hc, clampCorner_eq hr] at h
    obtain ⟨y, hy, x, hx, rfl⟩ := h
    have hlt : x < sl.cols := by omega
    have hcol : (y * sl.cols + x) % sl.cols = x := by rw [Nat.mul_add_mod_self_right, Nat.mod_eq_of_lt hlt]
    have hrow : (y * sl.cols + x) / sl.cols = y := by
      rw [Nat.mul_comm, Nat.mul_add_div hc, Nat.div_eq_of_lt hlt, Nat.add_zero]
    rw [hcol, hrow]
    omega
  · rintro ⟨-, hx1, hx2, hy1, hy2⟩
    simp only [rectangle, List.mem_flatMap, List.mem_map, List.mem_range'_1, clampCorner_eq hc, clampCorner_eq hr]
    exact ⟨k / sl.cols, by omega, k % sl.cols, by omega, Nat.div_add_mod' k sl.cols⟩

theorem rectangle_nodup (hc : 1 ≤ sl.cols) : (rectangle sl x1 y1 x2 y2).Nodup := by
  rw [rectangle]
  refine List.nodup_flatMap.2 ⟨fun y _ => List.Nodup.map (add_right_injective _) List.nodup_range', ?_⟩
  refine List.Pairwise.imp (fun {y z} hlt => List.disjoint_left.2 fun k hy hz => ?_) (List.pairwise_lt_range' ..)
  simp only [List.mem_map, List.mem_range'_1, clampCorner_eq hc] at hy hz
  obtain ⟨a, ha, rfl⟩ := hy
  obtain ⟨b, -, hab⟩ := hz
  have : y * sl.cols + sl.cols ≤ z * sl.cols := by rw [← Nat.succ_mul]; exact Nat.mul_le_mul_right _ hlt
  omega

/-- A count over the rectangle is a count over the map. -/
theorem rectangle_countP (hc : 1 ≤ sl.cols) (hr : 1 ≤ sl.rows) (p : Nat → Bool) :
    (rectangle sl x1 y1 x2 y2).countP p =
      (List.range sl.size).countP fun k => insideRectangle sl x1 y1 x2 y2 k && p k := by
  have hperm : (rectangle sl x1 y1 x2 y2).Perm ((List.range sl.size).filter (insideRectangle sl x1 y1 x2 y2)) := by
    refine (List.perm_ext_iff_of_nodup (rectangle_nodup hc) (List.nodup_range.filter _)).2 fun k => ?_
    rw [mem_rectangle hc hr, List.mem_filter, List.mem_range, insideRectangle, decide_eq_true_eq]
    exact ⟨fun h => ⟨h.1, h⟩, fun h => h.2⟩
  rw [hperm.countP_eq, List.countP_filter]
  exact List.countP_congr fun k _ => by rw [Bool.and_comm]

end Rectangle

/-! ### The two commands on an OPEN slot -/

section Commands

variable {tag slot x1 y1 x2 y2 : Byte} {i : Fin 64} {s : State}

theorem exec_excl (hslot : slot.toNat = i.val) (hopen : s.slots[i].state = .opened)
    (h : EngineTakes (.excl tag slot x1 y1 x2 y2) s) : exec (.excl tag slot x1 y1 x2 y2) s =
      (let cells := rectangle s.slots[i] x1.toNat y1.toNat x2.toNat y2.toNat
      let t := s.settle i (cells.foldl (fun w k => excludeCell (s.recipeOfSlot i) k w) (s.wafer i))
      .next (answered (.rsp tag 0x22 .ok (be3 (cells.countP fun k => (s.slots[i].cell k).status != .excluded) ++
        be3 (cells.countP fun k => isTested (s.slots[i].cell k)))) (t.1.offerAll 1 t.2))) := by
  rw [exec_engine rfl h, overrideItem_opened hslot hopen]
  exact congrArg _ (Item.finish_alerts ..)

theorem exec_incl (hslot : slot.toNat = i.val) (hopen : s.slots[i].state = .opened)
    (h : EngineTakes (.incl tag slot x1 y1 x2 y2) s) : exec (.incl tag slot x1 y1 x2 y2) s =
      (let cells := rectangle s.slots[i] x1.toNat y1.toNat x2.toNat y2.toNat
      .next (answered (.rsp tag 0x23 .ok (be3 (cells.countP fun k => (s.slots[i].cell k).status == .excluded)))
        (s.commit i (cells.foldl (fun w k => includeCell k w) (s.wafer i))))) := by
  rw [exec_engine rfl h, overrideItem_opened hslot hopen]
  exact congrArg _ (Item.finish_ok ..)

end Commands

/-- The tallies of excluded cells, counted over the list. -/
theorem removeAll_testedBins (r : Recipe) (sl : Slot) (l : List Nat) (t : Tallies) :
    (removeAll r (testedBins sl l) t).tested = t.tested - l.countP (fun k => isTested (sl.cell k)) ∧
    (removeAll r (testedBins sl l) t).passed =
      t.passed - l.countP (fun k => isTested (sl.cell k) && r.entries[(sl.cell k).bin].cls == .pass) ∧
    ∀ b : Fin 64, (removeAll r (testedBins sl l) t).counts[b] =
      t.counts[b] - l.countP fun k => isTested (sl.cell k) && (sl.cell k).bin == b := by
  refine ⟨?_, ?_, fun b => ?_⟩
  · have hlen : (testedBins sl l).length = (testedBins sl l).countP fun _ => true := by rw [List.countP_true]
    simp only [removeAll_tested, hlen, testedBins_countP, Bool.and_true]
  · rw [removeAll_passed, testedBins_countP]
    rfl
  · rw [removeAll_counts, testedBins_countP]

/-- Settles O31: both commands are folds over the rectangle, whose cells are the cells of the map inside it. -/
theorem excludeAndIncludeRectangle : Obligations.ExcludeAndIncludeRectangle := by
  refine ⟨fun tag slot x1 y1 x2 y2 s hslot => ⟨fun h => refuses_of_work rfl h (overrideItem_badField hslot),
      fun h => refuses_of_work rfl h (overrideItem_badField hslot)⟩,
    fun tag slot x1 y1 x2 y2 i s hslot hi => ⟨fun h => refuses_of_work rfl h (overrideItem_wrongState hslot hi),
      fun h => refuses_of_work rfl h (overrideItem_wrongState hslot hi)⟩,
    fun tag slot x1 y1 x2 y2 i s hslot hopen hwf hc hr => ⟨fun h => ?_, fun h => ?_⟩⟩
  · have hall := foldl_excludeCell (s.recipeOfSlot i) (rectangle_nodup (sl := s.slots[i]) (x1 := x1.toNat)
      (y1 := y1.toNat) (x2 := x2.toNat) (y2 := y2.toNat) hc) (w := s.wafer i) hwf
    have hfallen := removeAll_testedBins (s.recipeOfSlot i) s.slots[i]
      (rectangle s.slots[i] x1.toNat y1.toNat x2.toNat y2.toNat)
    simp only [rectangle_countP hc hr] at hfallen
    refine ⟨_, (exec_excl hslot hopen h).trans ?_, fun k => ?_, ?_, ⟨?_, ?_⟩, ?_, hall.frame⟩
    · simp only [rectangle_countP hc hr]
      rfl
    · exact (hall.cells.cell k).trans (if_congr (and_congr (mem_rectangle hc hr) bne_iff_ne) rfl rfl)
    · rw [hall.mapSize, rectangle_countP hc hr]
      rfl
    · rw [hall.tallies]
      exact hfallen _
    · rw [hall.totals]
      exact hfallen _
    · rw [hall.moved, rectangle_countP hc hr]
      exact or_iff_right Bool.false_ne_true
  · have hall := foldl_includeCell (rectangle_nodup (sl := s.slots[i]) (x1 := x1.toNat)
      (y1 := y1.toNat) (x2 := x2.toNat) (y2 := y2.toNat) hc) (w := s.wafer i) hwf
    refine ⟨_, (exec_incl hslot hopen h).trans ?_, fun k => ?_, ?_, hall.totals, hall.frame⟩
    · simp only [rectangle_countP hc hr]
      rfl
    · exact (hall.cells.cell k).trans (if_congr (and_congr (mem_rectangle hc hr) beq_iff_eq) rfl rfl)
    · rw [hall.mapSize, rectangle_countP hc hr]
      rfl

end Sys2Proof.Machine
end

section
/-! PROOFS. Evaluations of limits (spec/05, R97 to R108): a second evaluation holds every state, and what an evaluation
and the write-back of an item's cell changes do, change by change. -/

namespace Sys2Proof.Machine

open Sys2Proof.Safety

/-! ### A second evaluation (R101) -/

/-- R98: the two thresholds of a ceiling do not cross, so a test of the same counts holds what it has set. -/
theorem ceilingTest_settled (C H N T count : Nat) (b : Breach) :
    ceilingTest C H N T count (ceilingTest C H N T count b) = ceilingTest C H N T count b := by
  have hle : (C - H) * T ≤ C * T := Nat.mul_le_mul_right T (Nat.sub_le C H)
  cases b with
  | clear =>
    by_cases h : N ≤ T ∧ C * T < 10000 * count
    · have hnot : ¬ 10000 * count ≤ (C - H) * T := by omega
      simp only [ceilingTest, if_pos h, if_neg hnot]
    · simp only [ceilingTest, if_neg h]
  | breach =>
    by_cases h : 10000 * count ≤ (C - H) * T
    · have hnot : ¬ (N ≤ T ∧ C * T < 10000 * count) := by omega
      simp only [ceilingTest, if_pos h, if_neg hnot]
    · simp only [ceilingTest, if_neg h]

/-- R99, R100: nor do those of a floor. -/
theorem yieldTest_settled {F : Nat} (H N T P : Nat) (b : Breach) (hF : F ≤ 10000) :
    yieldTest F H N T P (yieldTest F H N T P b) = yieldTest F H N T P b := by
  have hle : F * T ≤ min (F + H) 10000 * T := Nat.mul_le_mul_right T (by omega)
  cases b with
  | clear =>
    by_cases h : N ≤ T ∧ 10000 * P < F * T
    · have hnot : ¬ min (F + H) 10000 * T ≤ 10000 * P := by omega
      simp only [yieldTest, if_pos h, if_neg hnot]
    · simp only [yieldTest, if_neg h]
  | breach =>
    by_cases h : min (F + H) 10000 * T ≤ 10000 * P
    · have hnot : ¬ (N ≤ T ∧ 10000 * P < F * T) := by omega
      simp only [yieldTest, if_pos h, if_neg hnot]
    · simp only [yieldTest, if_neg h]

theorem edgeOf_self (b : Breach) : edgeOf b b = none := by cases b <;> rfl

section Second

variable (r : Recipe) {floor : Nat} (t : Tallies) (l : LimitStates)

theorem evaluateBin_evaluate (b : Fin 64) :
    evaluateBin r t (evaluate r floor t l) b = (evaluate r floor t l).bins[b] := by
  rw [evaluate_bin, evaluateBin, evaluate_bin, evaluateBin]
  split
  · exact ceilingTest_settled ..
  · rfl

theorem evaluateYield_evaluate (h : floor ≤ 10000) :
    evaluateYield r floor t (evaluate r floor t l) = (evaluate r floor t l).yield := by
  rw [evaluate_yield, evaluateYield, evaluate_yield, evaluateYield]
  split
  · exact yieldTest_settled _ _ _ _ _ h
  · rfl

theorem limitChanges_evaluate (h : floor ≤ 10000) : limitChanges r floor t (evaluate r floor t l) = [] := by
  have hbin : ∀ b, binChange r t (evaluate r floor t l) b = none := fun b => by
    rw [binChange, evaluateBin_evaluate, edgeOf_self]
    rfl
  have hyield : yieldChange r floor t (evaluate r floor t l) = none := by
    rw [yieldChange, evaluateYield_evaluate r t l h, edgeOf_self]
    rfl
  rw [limitChanges, hyield, List.filterMap_eq_nil_iff.2 fun b _ => hbin b]
  rfl

end Second

/-- Settles O33: no threshold crosses its clear threshold, so no state changes. -/
theorem secondEvaluationHoldsEveryState : Obligations.SecondEvaluationHoldsEveryState := by
  intro r floor t l h
  have hnone := limitChanges_evaluate r t l h
  refine ⟨Vector.ext fun b hb => ?_, ?_, ?_, hnone⟩
  · exact (evaluate_bin r floor t _ ⟨b, hb⟩).trans (evaluateBin_evaluate r t l ⟨b, hb⟩)
  · exact evaluateYield_evaluate r t l h
  · have hseen : (evaluate r floor t (evaluate r floor t l)).seen =
        ((evaluate r floor t l).seen ||
          (limitChanges r floor t (evaluate r floor t l)).any fun c => c.edge == .enter) := rfl
    rw [hseen, hnone, List.any_nil, Bool.or_false]

/-! ### The changes of an evaluation (R102, R107, R108) -/

theorem edgeOf_eq_enter {a b : Breach} : edgeOf a b = some .enter ↔ a = .clear ∧ b = .breach := by
  cases a <;> cases b <;> simp [edgeOf]

theorem edgeOf_eq_clear {a b : Breach} : edgeOf a b = some .clear ↔ a = .breach ∧ b = .clear := by
  cases a <;> cases b <;> simp [edgeOf]

section Changes

variable {r : Recipe} {floor : Nat} {t : Tallies} {l : LimitStates}

theorem binChange_eq_some {b : Fin 64} {c : LimitChange} : binChange r t l b = some c ↔
    c.bin = b ∧ c.threshold = r.entries[b].ceiling ∧ c.tested = t.tested ∧ c.figure = t.share b ∧
      edgeOf l.bins[b] (evaluateBin r t l b) = some c.edge := by
  obtain ⟨edge, bin, threshold, tested, figure⟩ := c
  simp only [binChange, Option.map_eq_some_iff, LimitChange.mk.injEq]
  grind

/-- The changes of the bins' states, ascending. -/
def binChanges (r : Recipe) (t : Tallies) (l : LimitStates) : List LimitChange :=
  ((List.finRange 64).filter fun b => b != 0).filterMap (binChange r t l)

theorem limitChanges_eq : limitChanges r floor t l = binChanges r t l ++ (yieldChange r floor t l).toList := rfl

theorem mem_binChanges {c : LimitChange} : c ∈ binChanges r t l ↔ c.bin ≠ 0 ∧
    c.threshold = r.entries[c.bin].ceiling ∧ c.tested = t.tested ∧ c.figure = t.share c.bin ∧
      ((c.edge = .enter ∧ l.bins[c.bin] = .clear ∧ (evaluate r floor t l).bins[c.bin] = .breach) ∨
        (c.edge = .clear ∧ l.bins[c.bin] = .breach ∧ (evaluate r floor t l).bins[c.bin] = .clear)) := by
  have hedge : edgeOf l.bins[c.bin] (evaluateBin r t l c.bin) = some c.edge ↔
      (c.edge = .enter ∧ l.bins[c.bin] = .clear ∧ (evaluate r floor t l).bins[c.bin] = .breach) ∨
        (c.edge = .clear ∧ l.bins[c.bin] = .breach ∧ (evaluate r floor t l).bins[c.bin] = .clear) := by
    rw [evaluate_bin]
    cases c.edge with
    | enter => simp [edgeOf_eq_enter]
    | clear => simp [edgeOf_eq_clear]
  rw [← hedge, binChanges, List.mem_filterMap]
  constructor
  · rintro ⟨b, hb, hc⟩
    have hbin : c.bin = b := (binChange_eq_some.1 hc).1
    subst hbin
    exact ⟨bne_iff_ne.1 (List.mem_filter.1 hb).2, (binChange_eq_some.1 hc).2⟩
  · rintro ⟨h0, h⟩
    exact ⟨c.bin, List.mem_filter.2 ⟨List.mem_finRange _, bne_iff_ne.2 h0⟩, binChange_eq_some.2 ⟨rfl, h⟩⟩

theorem binChanges_pairwise : (binChanges r t l).Pairwise fun c d => c.bin < d.bin := by
  refine List.pairwise_filterMap.2 ((pairwise_filter_finRange _).imp fun hlt c hc d hd => ?_)
  rwa [(binChange_eq_some.1 hc).1, (binChange_eq_some.1 hd).1]

theorem yieldChange_toList : (yieldChange r floor t l).toList =
    if l.yield = (evaluate r floor t l).yield then []
    else [⟨if (evaluate r floor t l).yield = .breach then .enter else .clear, 0, floor, t.tested, t.yield⟩] := by
  rw [yieldChange, evaluate_yield]
  cases l.yield <;> cases evaluateYield r floor t l <;> rfl

/-- R107: the mark is set by an entry into a breach, of a bin or of the yield. -/
theorem evaluate_seen : (evaluate r floor t l).seen = true ↔
    l.seen = true ∨ (l.yield = .clear ∧ (evaluate r floor t l).yield = .breach) ∨
      ∃ b : Fin 64, b ≠ 0 ∧ l.bins[b] = .clear ∧ (evaluate r floor t l).bins[b] = .breach := by
  have hseen : (evaluate r floor t l).seen = true ↔
      l.seen = true ∨ ∃ c ∈ limitChanges r floor t l, c.edge = .enter := by
    simp only [evaluate, Bool.or_eq_true, List.any_eq_true, beq_iff_eq]
  rw [hseen]
  refine or_congr Iff.rfl ⟨?_, ?_⟩
  · rintro ⟨c, hc, hedge⟩
    obtain hb | hy := List.mem_append.1 (limitChanges_eq ▸ hc)
    · obtain ⟨h0, -, -, -, ⟨-, hold, hnew⟩ | ⟨hclear, -⟩⟩ := (mem_binChanges (floor := floor)).1 hb
      · exact .inr ⟨c.bin, h0, hold, hnew⟩
      · cases hedge.symm.trans hclear
    · obtain ⟨e, he, rfl⟩ := Option.map_eq_some_iff.1 (Option.mem_toList.1 hy)
      exact .inl (edgeOf_eq_enter.1 (he.trans (congrArg some hedge)))
  · rintro (⟨hold, hnew⟩ | ⟨b, hb, hold, hnew⟩)
    · exact enters_yield_mem_limitChanges hold hnew
    · exact enters_mem_limitChanges hb hold ((evaluate_bin ..).symm.trans hnew)

end Changes

/-! ### The write-back of an item's cell changes (R64, R78, R85) -/

section WriteBack

variable {s : State} {i : Fin 64} {w : Wafer} {d : Identity}

theorem State.recipeAt_congr {s t : State} (h : t.recipes = s.recipes) (r : Option (Fin 8)) :
    t.recipeAt r = s.recipeAt r := by
  cases r with
  | none => rfl
  | some r => simp only [State.recipeAt, h]

theorem State.readAhead_eq (s : State) (i : Fin 64) : s.readAhead i =
    match s.jobs with
    | [] => s
    | j :: rest =>
      if j.kind = .digest ∧ j.slot = i then
        { s with
          jobs := j.readTo s.slots[i].cells (min (j.next + Config.cellsReadAhead s.freeIndex) j.stop) :: rest
          freeIndex := s.freeIndex + 1 }
      else s := by
  unfold State.readAhead
  cases s.jobs <;> rfl

theorem State.commit_of_identity (h : w.slot.identity = some d) : s.commit i w = { s.readAhead i with
    slots := s.slots.set i w.slot
    lots := s.lots.set d.lot { s.lots[d.lot] with totals := w.totals } } := by
  simp only [State.commit, State.putWafer, h, State.setLot, State.setSlot, State.readAhead_slots, State.readAhead_lots]

/-- R78, R103: after a tally move the slot is evaluated and then its lot. -/
theorem State.settle_of_moved_identity (h : w.slot.identity = some d) (hm : w.moved = true) :
    s.settle i w =
      (let r := s.recipeAt w.slot.recipe
      let l := s.lots[d.lot]
      let q := s.recipeAt l.recipe
      ({ s.readAhead i with
          slots := s.slots.set i { w.slot with
            limits := evaluate r r.scalars.waferFloor w.slot.tallies w.slot.limits }
          lots := s.lots.set d.lot { l with
            totals := w.totals, limits := evaluate q q.scalars.lotFloor w.totals l.limits } },
        (limitChanges r r.scalars.waferFloor w.slot.tallies w.slot.limits).map (waferAlert i (some d)) ++
          (limitChanges q q.scalars.lotFloor w.totals l.limits).map (lotAlert d.lot l.ident))) := by
  have hslot : (s.commit i w).slots[i] = w.slot := by rw [commit_slots, get_set_self]
  have hlot : (s.commit i w).lots[d.lot] = { s.lots[d.lot] with totals := w.totals } := by
    rw [State.commit_of_identity h, get_set_self]
  have hrecipe : (s.commit i w).recipeOfSlot i = s.recipeAt w.slot.recipe := by
    rw [State.recipeOfSlot, hslot, State.recipeAt_congr (State.commit_recipes ..)]
  obtain ⟨u, hu⟩ : ∃ u, (s.commit i w).evaluateSlot i = u := ⟨_, rfl⟩
  have hlotOf : u.1.recipeOfLot d.lot = s.recipeAt s.lots[d.lot].recipe := by
    rw [← hu, State.recipeOfLot, State.evaluateSlot_lots, hlot, State.recipeAt_congr
      ((State.evaluateSlot_recipes ..).trans (State.commit_recipes ..))]
  have hulots : u.1.lots = (s.commit i w).lots := hu ▸ State.evaluateSlot_lots ..
  rw [State.settle_of_moved hm, State.evaluateBoth, hu]
  simp only [hslot, h, State.evaluateLot, hlotOf, hulots, hlot]
  rw [← hu, State.evaluateSlot]
  simp only [hslot, hrecipe, h]
  simp only [State.setSlot, State.setLot, State.commit_of_identity h, Vector.set_set]

end WriteBack

/-- Settles O34: `evaluateSlot`, `evaluateLot`, `readAhead` and `settle` opened, and the changes of one evaluation. -/
theorem evaluationOffersEachChange : Obligations.EvaluationOffersEachChange := by
  refine ⟨fun _ _ => rfl, fun _ _ => rfl, fun _ _ _ => rfl, fun _ _ _ => rfl, fun s i => State.readAhead_eq s i,
    fun s i w d h => ⟨State.commit_of_identity h, State.settle_of_not_moved, State.settle_of_moved_identity h⟩,
    fun r floor t l => ⟨evaluate_seen, binChanges r t l, (yieldChange r floor t l).toList, limitChanges_eq,
      binChanges_pairwise, fun c => mem_binChanges, yieldChange_toList⟩⟩

end Sys2Proof.Machine
end

section
/-! PROOFS. Recipes and the commands that read (spec/01, spec/02): LDRC, RDRC, RDCL and FNDW. -/

namespace Sys2Proof.Machine

open Sys2Proof.Safety

/-! ### The number bytes of a command -/

theorem recipeOf_eq_some {b : Byte} {r : Fin 8} (h : b.toNat = r.val) : recipeOf b = some r := by
  simp [recipeOf, h]

theorem recipeOf_eq_none {b : Byte} (h : 8 ≤ b.toNat) : recipeOf b = none := dif_neg (not_lt.2 h)

theorem partOk_iff {b : Byte} : partOk b = true ↔ 1 ≤ b.toNat ∧ b.toNat ≤ 2 := by
  simp only [partOk, Bool.or_eq_true, beq_iff_eq]
  bv_omega

theorem partOk_eq_false {b : Byte} (h : b.toNat = 0 ∨ 3 ≤ b.toNat) : partOk b = false :=
  Bool.not_eq_true _ ▸ fun hok => by have := partOk_iff.1 hok; omega

theorem policyOf_eq (b : Byte) : policyOf b = if b.toNat ≤ 2 then
    some (if b = 0 then .last else if b = 1 then .best else .stickyPass) else none := by
  unfold policyOf
  split
  case _ h => rw [if_pos (by omega), if_pos (by bv_omega)]
  case _ h => rw [if_pos (by omega), if_neg (by bv_omega), if_pos (by bv_omega)]
  case _ h => rw [if_pos (by omega), if_neg (by bv_omega), if_neg (by bv_omega)]
  case _ _ h0 h1 h2 =>
    change ¬ _ at h0 h1 h2
    rw [if_neg fun hle => by omega]

theorem breachAdviceOf_eq (b : Byte) : breachAdviceOf b = if b.toNat ≤ 1 then
    some (if b = 0 then .continue else .pause) else none := by
  unfold breachAdviceOf
  split
  case _ h => rw [if_pos (by omega), if_pos (by bv_omega)]
  case _ h => rw [if_pos (by omega), if_neg (by bv_omega)]
  case _ _ h0 h1 =>
    change ¬ _ at h0 h1
    rw [if_neg fun hle => by omega]

theorem State.recipeInUse_iff {s : State} {r : Fin 8} : s.recipeInUse r = true ↔
    ∃ k : Fin 16, s.lots[k].state ≠ .free ∧ s.lots[k].recipe = some r := by
  simp only [State.recipeInUse, List.any_eq_true, Vector.mem_toList_iff, Bool.and_eq_true, bne_iff_ne, beq_iff_eq]
  constructor
  · rintro ⟨l, hl, h⟩
    obtain ⟨k, hk, rfl⟩ := Vector.getElem_of_mem hl
    exact ⟨⟨k, hk⟩, h⟩
  · rintro ⟨k, h⟩
    exact ⟨_, Vector.getElem_mem k.isLt, h⟩

/-! ### Clamping (R11) -/

/-- R11: a field counts as clamped when it lies outside its range. -/
theorem changed_clampRange {lo hi v : Nat} (h : lo ≤ hi) :
    changed v (clampRange lo hi v) = if v < lo ∨ hi < v then 1 else 0 := by
  unfold changed clampRange
  grind

theorem clampRange_eq {lo hi v : Nat} (h : lo ≤ hi) : clampRange lo hi v = max lo (min hi v) := by
  unfold clampRange
  grind

theorem changed_clampHardBin (v : Nat) : changed v (clampHardBin v) = if v = 0 ∨ 8 < v then 1 else 0 := by
  unfold changed clampHardBin
  grind

theorem clampHardBin_eq (v : Nat) : clampHardBin v = if v = 0 ∨ 8 < v then 8 else v := by
  unfold clampHardBin
  grind

theorem changed_clampRunLimit (v : Nat) : changed v (clampRunLimit v) = if v = 1 then 1 else 0 := by
  unfold changed clampRunLimit
  grind

theorem scalarClamps_eq (w : ScalarsWire) : scalarClamps w =
    (if w.attemptLimit.toNat = 0 ∨ 7 < w.attemptLimit.toNat then 1 else 0) +
    (if 10000 < w.waferFloor.toNat then 1 else 0) + (if 10000 < w.lotFloor.toNat then 1 else 0) +
    (if w.minSample.toNat = 0 then 1 else 0) + (if 1000 < w.hysteresis.toNat then 1 else 0) +
    (if w.runLimit.toNat = 1 then 1 else 0) := by
  have hsample : ¬ 65535 < w.minSample.toNat := by omega
  simp only [scalarClamps, changed_clampRunLimit, changed_clampRange (show 1 ≤ 7 by omega),
    changed_clampRange (show 0 ≤ 10000 by omega), changed_clampRange (show 0 ≤ 1000 by omega),
    changed_clampRange (show 1 ≤ 65535 by omega), Nat.not_lt_zero, false_or, Nat.lt_one_iff, hsample, or_false]

theorem storedScalars_eq (policy : RetestPolicy) (advice : BreachAdvice) (w : ScalarsWire) :
    storedScalars policy advice w = {
      policy := policy
      attemptLimit := max 1 (min 7 w.attemptLimit.toNat)
      waferFloor := min 10000 w.waferFloor.toNat
      lotFloor := min 10000 w.lotFloor.toNat
      minSample := max 1 w.minSample.toNat
      hysteresis := min 1000 w.hysteresis.toNat
      runLimit := if w.runLimit = 1 then 2 else w.runLimit.toNat
      advice := advice } := by
  have hsample : min 65535 w.minSample.toNat = w.minSample.toNat := by omega
  have hrun : clampRunLimit w.runLimit.toNat = if w.runLimit = 1 then 2 else w.runLimit.toNat :=
    if_congr (by bv_omega) rfl rfl
  simp only [storedScalars, hrun, clampRange_eq (show 1 ≤ 7 by omega), clampRange_eq (show 0 ≤ 10000 by omega),
    clampRange_eq (show 0 ≤ 1000 by omega), clampRange_eq (show 1 ≤ 65535 by omega), hsample, Nat.zero_max]

theorem storedEntry_undefined {e : EntryWire} (h : e.flags.getLsbD 2 = false) :
    storedEntry e = BinEntry.reset ∧ entryClamps e = 0 := by
  simp only [storedEntry, entryClamps, entryDefined, h, Bool.false_eq_true, if_false, and_self]

theorem storedEntry_defined {e : EntryWire} (h : e.flags.getLsbD 2 = true) : storedEntry e = {
      defined := true, cls := if e.flags.getLsbD 1 = true then .pass else .fail
      hardBin := if e.hardBin.toNat = 0 ∨ 8 < e.hardBin.toNat then 8 else e.hardBin.toNat
      rank := min 15 e.rank.toNat, ceiling := min 10000 e.ceiling.toNat, eligible := e.flags.getLsbD 0 } ∧
    entryClamps e = (if e.hardBin.toNat = 0 ∨ 8 < e.hardBin.toNat then 1 else 0) +
      (if 15 < e.rank.toNat then 1 else 0) + (if 10000 < e.ceiling.toNat then 1 else 0) := by
  refine ⟨?_, ?_⟩
  · simp only [storedEntry, entryDefined, h, if_true, clampHardBin_eq, clampRange_eq (Nat.zero_le _), Nat.zero_max]
  · simp only [entryClamps, entryDefined, h, if_true, changed_clampHardBin, changed_clampRange (Nat.zero_le _),
      Nat.not_lt_zero, false_or]

/-! ### LDRC (R9, R10) -/

section Ldrc

variable {c : Instr} {tag recipe part : Byte} {w : ScalarsWire} {entries : List EntryWire} {s : State} {r : Fin 8}

/-- R9: the checks passed, and whether the recipe is in use. -/
theorem ldrcPart1Item_checked (hr : recipe.toNat = r.val) (hp1 : 1 ≤ part.toNat) (hp2 : part.toNat ≤ 2)
    (hpol : w.policy.toNat ≤ 2) (hadv : w.advice.toNat ≤ 1) : ldrcPart1Item c tag recipe part w entries s =
      if s.recipeInUse r = true then .refuse c tag .inUse s
      else .ok c tag (be1 (scalarClamps w + (entries.map entryClamps).sum)) { s with
        staging := some ⟨r, storedScalars (if w.policy = 0 then .last else if w.policy = 1 then .best else .stickyPass)
            (if w.advice = 0 then .continue else .pause) w,
          entries.map storedEntry, scalarClamps w + (entries.map entryClamps).sum⟩ } := by
  simp only [ldrcPart1Item, recipeOf_eq_some hr, partOk_iff.2 ⟨hp1, hp2⟩, policyOf_eq, if_pos hpol, breachAdviceOf_eq,
    if_pos hadv]

theorem ldrcPart1Item_badField (h : ¬ (recipe.toNat < 8 ∧ 1 ≤ part.toNat ∧ part.toNat ≤ 2 ∧ w.policy.toNat ≤ 2 ∧
    w.advice.toNat ≤ 1)) : ldrcPart1Item c tag recipe part w entries s = .refuse c tag .badField s := by
  unfold ldrcPart1Item
  split
  case _ r policy advice hr hp hpol hadv =>
    refine absurd ?_ h
    rw [policyOf_eq] at hpol
    rw [breachAdviceOf_eq] at hadv
    have hr8 : recipe.toNat < 8 := by
      by_contra hge
      rw [recipeOf_eq_none (not_lt.1 hge)] at hr
      cases hr
    have hpol2 : w.policy.toNat ≤ 2 := by
      by_contra hgt
      rw [if_neg hgt] at hpol
      cases hpol
    have hadv1 : w.advice.toNat ≤ 1 := by
      by_contra hgt
      rw [if_neg hgt] at hadv
      cases hadv
    exact ⟨hr8, (partOk_iff.1 hp).1, (partOk_iff.1 hp).2, hpol2, hadv1⟩
  case _ => rfl

theorem ldrcPart2Item_badField (h : 8 ≤ recipe.toNat ∨ part.toNat = 0 ∨ 3 ≤ part.toNat) :
    ldrcPart2Item c tag recipe part entries s = .refuse c tag .badField s := by
  unfold ldrcPart2Item
  split
  case _ r hr hp =>
    obtain h8 | hpart := h
    · rw [recipeOf_eq_none h8] at hr
      cases hr
    · rw [partOk_eq_false hpart] at hp
      cases hp
  case _ => rfl

theorem ldrcPart2Item_notStaged (hr : recipe.toNat = r.val) (hp1 : 1 ≤ part.toNat) (hp2 : part.toNat ≤ 2)
    (h : ∀ g, s.staging = some g → g.recipe ≠ r) :
    ldrcPart2Item c tag recipe part entries s = .refuse c tag .notStaged s := by
  simp only [ldrcPart2Item, recipeOf_eq_some hr, partOk_iff.2 ⟨hp1, hp2⟩]
  cases hg : s.staging with
  | none => rfl
  | some g => exact if_neg (h g hg)

theorem ldrcPart2Item_staged (hr : recipe.toNat = r.val) (hp1 : 1 ≤ part.toNat) (hp2 : part.toNat ≤ 2) {g : Staging}
    (hg : s.staging = some g) (hgr : g.recipe = r) : ldrcPart2Item c tag recipe part entries s =
      if s.recipeInUse r = true then .refuse c tag .inUse s
      else .ok c tag ([(committed s.recipes[r] g entries).state.code] ++
          be1 (g.clamped + (entries.map entryClamps).sum))
        { s with recipes := s.recipes.set r (committed s.recipes[r] g entries), staging := none } := by
  simp only [ldrcPart2Item, recipeOf_eq_some hr, partOk_iff.2 ⟨hp1, hp2⟩, hg, if_pos hgr]

end Ldrc

theorem entryTable_eq (entries : List BinEntry) : entryTable entries = Vector.ofFn fun b =>
    if b = 0 then BinEntry.reset else entries.getD (b.val - 1) BinEntry.reset := by
  refine congrArg Vector.ofFn (funext fun b => ?_)
  obtain ⟨b, hb⟩ := b
  cases b with
  | zero => rfl
  | succ b => exact (if_neg (by simp [Fin.ext_iff])).symm

theorem recipeStateOf_eq (table : Vector BinEntry 64) : recipeStateOf table =
    if ∃ b : Fin 64, table[b].defined = true ∧ table[b].cls = .pass then .valid else .invalid := by
  refine if_congr ?_ rfl rfl
  simp only [List.any_eq_true, Vector.mem_toList_iff, Bool.and_eq_true, beq_iff_eq]
  constructor
  · rintro ⟨e, he, h⟩
    obtain ⟨b, hb, rfl⟩ := Vector.getElem_of_mem he
    exact ⟨⟨b, hb⟩, h⟩
  · rintro ⟨b, h⟩
    exact ⟨_, Vector.getElem_mem b.isLt, h⟩

/-- Settles O35: the item of each part by its checks, and the clamping field by field. -/
theorem recipeLoadStagesAndCommits : Obligations.RecipeLoadStagesAndCommits := by
  refine ⟨fun tag recipe part w entries s h => ?_, fun tag recipe part entries s h =>
    ⟨fun hbad => refuses_of_work rfl h (ldrcPart2Item_badField hbad), fun r hr hp1 hp2 =>
      ⟨fun hg => refuses_of_work rfl h (ldrcPart2Item_notStaged hr hp1 hp2 hg), fun g hg hgr => ?_⟩⟩,
    fun e => ⟨storedEntry_undefined, storedEntry_defined⟩, scalarClamps_eq⟩
  · rw [exec_engine rfl h]
    refine congrArg _ ?_
    by_cases hok : recipe.toNat < 8 ∧ 1 ≤ part.toNat ∧ part.toNat ≤ 2 ∧ w.policy.toNat ≤ 2 ∧ w.advice.toNat ≤ 1
    · obtain ⟨hr, hp1, hp2, hpol, hadv⟩ := id hok
      rw [dif_pos hok, ldrcPart1Item_checked (r := ⟨recipe.toNat, hr⟩) rfl hp1 hp2 hpol hadv]
      by_cases hu : s.recipeInUse ⟨recipe.toNat, hr⟩ = true
      · rw [if_pos hu, if_pos (State.recipeInUse_iff.1 hu)]
        exact Item.finish_refuse ..
      · rw [if_neg hu, if_neg (mt State.recipeInUse_iff.2 hu), storedScalars_eq]
        exact Item.finish_ok ..
    · rw [dif_neg hok, ldrcPart1Item_badField hok]
      exact Item.finish_refuse ..
  · rw [exec_engine rfl h, ldrcPart2Item_staged hr hp1 hp2 hg hgr]
    refine congrArg _ ?_
    by_cases hu : s.recipeInUse r = true
    · rw [if_pos hu, if_pos (State.recipeInUse_iff.1 hu)]
      exact Item.finish_refuse ..
    · rw [if_neg hu, if_neg (mt State.recipeInUse_iff.2 hu)]
      refine (Item.finish_ok ..).trans ?_
      simp only [committed, ← recipeStateOf_eq, ← entryTable_eq]
      rfl

end Sys2Proof.Machine
end

section
/-! PROOFS. The commands that read (spec/01, spec/02): RDRC, RDCL and FNDW, and the bytes they send. -/

namespace Sys2Proof.Machine

open Sys2Proof.Safety

/-! ### Commands on a slot or on a lot -/

section SlotItem

variable {c : Instr} {tag slot : Byte} {s : State}

theorem slotItem_badField {work : Fin 64 → State → Item} (h : 64 ≤ slot.toNat) :
    slotItem c tag slot work s = .refuse c tag .badField s := by
  rw [slotItem, slotOf_eq_none h]

theorem slotItem_some {work : Fin 64 → State → Item} {i : Fin 64} (h : slot.toNat = i.val) :
    slotItem c tag slot work s = work i s := by
  rw [slotItem, slotOf_eq_some h]

theorem lotItem_noLot {ident : LotId} {work : Fin 16 → State → Item} (h : s.findLot ident = none) :
    lotItem c tag ident work s = .refuse c tag .noLot s := by
  rw [lotItem, h]

theorem lotItem_some {ident : LotId} {work : Fin 16 → State → Item} {k : Fin 16} (h : s.findLot ident = some k) :
    lotItem c tag ident work s = work k s := by
  rw [lotItem, h]

end SlotItem

theorem inUse_eq_false {sl : Slot} : sl.inUse = false ↔ sl.state = .free ∨ sl.state = .clearing := by
  rw [← Bool.not_eq_true, inUse_iff]
  tauto

/-! ### RDRC (R13) -/

section Rdrc

variable {c : Instr} {tag recipe part : Byte} {s : State}

theorem rdrcItem_badField (h : 8 ≤ recipe.toNat ∨ (part.toNat ≠ 1 ∧ part.toNat ≠ 2)) :
    rdrcItem c tag recipe part s = .refuse c tag .badField s := by
  unfold rdrcItem
  split
  case _ r hr =>
    obtain h8 | ⟨h1, h2⟩ := h
    · rw [recipeOf_eq_none h8] at hr
      cases hr
    · have hp1 : part ≠ 1 := fun h => h1 (h ▸ rfl)
      have hp2 : part ≠ 2 := fun h => h2 (h ▸ rfl)
      simp only [if_neg hp1, if_neg hp2]
  case _ => rfl

/-- R13: part 1 carries the scalars and soft bins 1 to 31, part 2 soft bins 32 to 63. -/
theorem rdrcItem_part {r : Fin 8} (hr : recipe.toNat = r.val) (hp : part.toNat = 1 ∨ part.toNat = 2) :
    rdrcItem c tag recipe part s = .ok c tag ([s.recipes[r].state.code, s.recipes[r].loadCount] ++
      (if part.toNat = 1 then s.recipes[r].scalars.bytes else []) ++
      (if part.toNat = 1 then entryBytes s.recipes[r] 1 31 else entryBytes s.recipes[r] 32 63) ++
      flagBytes [s.recipeInUse r]) s := by
  rw [rdrcItem, recipeOf_eq_some hr]
  obtain hp | hp := hp
  · have hp1 : part = 1 := BitVec.eq_of_toNat_eq hp
    simp only [if_pos hp1, if_pos hp]
  · have hp2 : part = 2 := BitVec.eq_of_toNat_eq hp
    have hp1 : part ≠ 1 := by rw [hp2]; decide
    have hn1 : part.toNat ≠ 1 := by omega
    simp only [if_neg hp1, if_pos hp2, if_neg hn1, List.append_nil]

theorem entryBytes_part (r : Recipe) (n : Nat) : (if n = 1 then entryBytes r 1 31 else entryBytes r 32 63) =
    ((List.finRange 64).filter fun (b : Fin 64) =>
      if n = 1 then decide (1 ≤ b.val ∧ b.val ≤ 31) else decide (32 ≤ b.val)).flatMap fun b => r.entries[b].bytes := by
  by_cases h : n = 1
  · simp only [if_pos h]
    rfl
  · simp only [if_neg h]
    refine congrArg (List.flatMap _) (List.filter_congr fun b _ => ?_)
    exact decide_eq_decide.2 ⟨fun h => h.1, fun h => ⟨h, by omega⟩⟩

end Rdrc

/-! ### RDCL (R38) -/

theorem servedCells_eq (sl : Slot) (x count : Nat) :
    servedCells sl x count = min (if count = 0 then 1 else min count 64) (sl.cols - x) := by
  unfold servedCells clampRange
  grind

/-! ### The directory (R36) -/

/-- R36: the directory gives the slot of an identity and of no other. -/
theorem lookup_eq_some {s : State} (hl : LifeLaw s) (hs : ListsLaw s) {k : Fin 16} {w : Nat} {i : Fin 64} :
    s.lookup k w = some i ↔ s.slots[i].identity = some ⟨k, w⟩ := by
  rw [State.lookup, Option.map_eq_some_iff]
  constructor
  · rintro ⟨⟨k', w', i'⟩, he, rfl⟩
    have hmem := List.mem_of_find?_eq_some he
    have hmatch := List.find?_some he
    simp only [Bool.and_eq_true, beq_iff_eq] at hmatch
    obtain ⟨rfl, rfl⟩ := hmatch
    exact (hs.directory _ _ _).1 hmem
  · intro hi
    have hmem := (hs.directory k w i).2 hi
    cases he : s.directory.find? fun e => e.lot == k && e.wafer == w with
    | none => exact absurd (List.find?_eq_none.1 he _ hmem) (by simp)
    | some e =>
      obtain ⟨k', w', j⟩ := e
      have hfound := List.mem_of_find?_eq_some he
      have hmatch := List.find?_some he
      simp only [Bool.and_eq_true, beq_iff_eq] at hmatch
      obtain ⟨rfl, rfl⟩ := hmatch
      exact ⟨_, rfl, hl.identities j i _ ((hs.directory _ _ _).1 hfound) hi⟩

theorem finding_eq (s : State) (k : Fin 16) (w : Nat) : s.finding k w =
    match s.lookup k w with
    | some i =>
      if s.slots[i].state = .free ∨ s.slots[i].state = .clearing then [2, BitVec.ofNat 8 i.val]
      else [1, BitVec.ofNat 8 i.val, s.slots[i].state.code]
    | none => if s.lots[k].members.any (fun m => decide (m.wafer = w) && m.retired) = true then [3] else [4] := by
  unfold State.finding
  cases s.lookup k w with
  | none => rfl
  | some i =>
    dsimp only
    cases hu : s.slots[i].inUse with
    | false => rw [if_neg Bool.false_ne_true, if_pos (inUse_eq_false.1 hu)]; rfl
    | true => rw [if_pos rfl, if_neg fun h => by rw [inUse_eq_false.2 h] at hu; cases hu]; rfl

/-! ### The bytes of a cell record (R193) -/

section CellRecord

variable {k attempts : Nat}

/-- The first byte: the top two bits of the link, the status and the attempts. -/
theorem cellRecord_first (status : CellStatus) (hk : k ≤ 15) (ha : attempts ≤ 7) :
    (BitVec.ofNat 8 (k / 4 * 64 + (status.code * 16 + attempts))).toNat = k / 4 * 64 + ((match status with
      | .untested => 0 | .tested => 16 | .forced => 32 | .excluded => 48) + attempts) := by
  have hcode : status.code * 16 = (match status with
      | .untested => 0 | .tested => 16 | .forced => 32 | .excluded => 48) := by cases status <;> rfl
  have hle : status.code ≤ 3 := by cases status <;> decide
  rw [← hcode, BitVec.toNat_ofNat, Nat.mod_eq_of_lt (by omega)]

/-- The second byte: the low two bits of the link and the bin. -/
theorem cellRecord_second (k : Nat) (bin : Fin 64) :
    (BitVec.ofNat 8 (k % 4 * 64 + bin.val)).toNat = k % 4 * 64 + bin.val := by
  rw [BitVec.toNat_ofNat, Nat.mod_eq_of_lt (by omega)]

end CellRecord

theorem cell_record_bytes {c : Cell} (hc : c.attempts ≤ 7) : ∃ a b : Byte,
    c.record = [a, b, match c.source with | some src => BitVec.ofNat 8 src.site.val | none => 0] ∧
    (let k := match c.source with | some src => src.link.val | none => 15
    a.toNat = k / 4 * 64 + ((match c.status with
      | .untested => 0 | .tested => 16 | .forced => 32 | .excluded => 48) + c.attempts) ∧
    b.toNat = k % 4 * 64 + c.bin.val) := by
  obtain ⟨status, bin, attempts, source⟩ := c
  cases source with
  | none => exact ⟨_, _, rfl, cellRecord_first (k := 15) status le_rfl hc, cellRecord_second 15 bin⟩
  | some src =>
    have hlink : src.link.val ≤ 15 := by omega
    exact ⟨_, _, rfl, cellRecord_first status hlink hc, cellRecord_second src.link.val bin⟩

/-- Settles O36: each item opened by its checks, and the records field by field. -/
theorem recordReadersAnswer : Obligations.RecordReadersAnswer := by
  refine ⟨fun tag recipe part s h => ⟨fun hbad => refuses_of_work rfl h (rdrcItem_badField hbad), fun r hr hp => ?_⟩,
    fun tag slot y x count s h => ⟨fun hslot => refuses_of_work rfl h (slotItem_badField hslot), fun i hslot => ?_⟩,
    fun tag ident wafer s h => ⟨fun hlot => refuses_of_work rfl h ?_, fun k hlot => ?_⟩,
    fun s k w i hl hs => lookup_eq_some hl hs, fun c hc => cell_record_bytes hc, fun _ => rfl, fun c => ?_⟩
  · rw [exec_engine rfl h, rdrcItem_part hr hp, Item.finish_ok, entryBytes_part, flagBytes_single]
    simp only [← State.recipeInUse_iff, Bool.decide_eq_true]
    rfl
  · rw [exec_engine rfl h, slotItem_some hslot, rdclWork]
    refine congrArg _ ?_
    by_cases hu : s.slots[i].state = .free ∨ s.slots[i].state = .clearing
    · rw [if_pos hu]
      simp only [if_pos (inUse_eq_false.2 hu)]
      exact Item.finish_refuse ..
    · rw [if_neg hu]
      simp only [if_neg (mt inUse_eq_false.1 hu)]
      by_cases hin : y.toNat < s.slots[i].rows ∧ x.toNat < s.slots[i].cols
      · rw [if_pos hin, if_pos hin, servedCells_eq]
        exact (Item.finish_ok ..).trans (by simp only [be1, List.cons_append, List.nil_append]; rfl)
      · rw [if_neg hin, if_neg hin]
        exact Item.finish_refuse ..
  · rw [fndwItem, hlot]
  · have hitem : fndwItem (.fndw tag ident wafer) tag ident wafer s =
        .ok (.fndw tag ident wafer) tag (s.finding k wafer.toNat) s := by rw [fndwItem, hlot]
    rw [exec_engine rfl h, hitem, Item.finish_ok, finding_eq]
    rfl
  · obtain ⟨policy, _, _, _, _, _, _, advice⟩ := c
    cases policy <;> cases advice <;> rfl

end Sys2Proof.Machine
end

section
/-! PROOFS. Summaries (spec/05, spec/06): WSUM and LSUM, the rollups and the figures. -/

namespace Sys2Proof.Machine

open Sys2Proof.Safety

/-! ### The range of soft bins (R114, R136) -/

theorem binRangeOk_iff {first last : Byte} : binRangeOk first last = true ↔
    1 ≤ first.toNat ∧ first.toNat ≤ last.toNat ∧ last.toNat ≤ 63 := by
  rw [binRangeOk, decide_eq_true_eq]
  omega

theorem be1_toNat (b : Byte) : be1 b.toNat = [b] := congrArg (· :: []) (BitVec.ofNat_toNat 8 b)

theorem binsFrom_length {first last : Nat} (h : last ≤ 63) : (binsFrom first last).length = last + 1 - first := by
  have hperm : ((binsFrom first last).map Fin.val).Perm (List.range' first (last + 1 - first)) := by
    refine (List.perm_ext_iff_of_nodup (((List.nodup_finRange 64).filter _).map Fin.val_injective)
      List.nodup_range').2 fun n => ?_
    simp only [List.mem_map, List.mem_filter, List.mem_finRange, true_and, decide_eq_true_eq,
      List.mem_range'_1]
    constructor
    · rintro ⟨b, hb, rfl⟩
      omega
    · exact fun hn => ⟨⟨n, by omega⟩, by dsimp only; omega, rfl⟩
  rw [← List.length_map (f := Fin.val), hperm.length_eq, List.length_range']

/-! ### WSUM (R114, R115) -/

section Wsum

variable {c : Instr} {tag first last : Byte} {i : Fin 64} {s : State}

theorem wsumWork_badField (h : ¬ (1 ≤ first.toNat ∧ first.toNat ≤ last.toNat ∧ last.toNat ≤ 63)) :
    wsumWork c tag first last i s = .refuse c tag .badField s :=
  if_pos (Bool.not_eq_true _ ▸ mt binRangeOk_iff.1 h)

theorem wsumWork_wrongState (h : 1 ≤ first.toNat ∧ first.toNat ≤ last.toNat ∧ last.toNat ≤ 63)
    (hu : s.slots[i].inUse = false) : wsumWork c tag first last i s = .refuse c tag .wrongState s := by
  rw [wsumWork, binRangeOk_iff.2 h, if_neg (Bool.noConfusion : true ≠ false)]
  exact if_pos hu

theorem wsumWork_served (h : 1 ≤ first.toNat ∧ first.toNat ≤ last.toNat ∧ last.toNat ≤ 63)
    (hu : s.slots[i].inUse ≠ false) : wsumWork c tag first last i s = .ok c tag
      (wsumFields s.slots[i] (s.recipeOfSlot i) first.toNat (min last.toNat (first.toNat + 31))) s := by
  rw [wsumWork, binRangeOk_iff.2 h, if_neg (Bool.noConfusion : true ≠ false)]
  exact if_neg hu

end Wsum

theorem rollups_flatMap (r : Recipe) (t : Tallies) : (rollups r t).flatMap be3 =
    [1, 2, 3, 4, 5, 6, 7, 8].flatMap fun h => be3 (rollup r t h) := by
  have hlist : [1, 2, 3, 4, 5, 6, 7, 8] = (List.range 8).map (· + 1) := rfl
  rw [hlist, rollups, List.flatMap_map, List.flatMap_map]

theorem wsumFields_eq (sl : Slot) (r : Recipe) (first : Byte) (upto : Nat) : wsumFields sl r first.toNat upto =
    [sl.state.code] ++
    (match sl.identity with | some d => be1 d.lot.val ++ be1 d.wafer | none => [0xFF, 0]) ++
    (match sl.recipe with | some k => be1 k.val | none => [0xFF]) ++
    be2 sl.rows ++ be2 sl.cols ++ be3 sl.mapSize ++ be3 sl.tallies.tested ++ be3 sl.tallies.passed ++
    be2 sl.tallies.yield ++
    ([1, 2, 3, 4, 5, 6, 7, 8].flatMap fun h => be3 (rollup r sl.tallies h)) ++
    [first, BitVec.ofNat 8 upto] ++
    (((List.finRange 64).filter fun (b : Fin 64) => decide (first.toNat ≤ b.val ∧ b.val ≤ upto)).flatMap
      fun (b : Fin 64) => be4 (sl.tallies.counts[b] * 16384 + sl.tallies.share b)) ++
    binSetBytes sl.limits.bins ++ be2 sl.shadowed ++ [sl.disposition.code] ++ finalYieldBytes sl.finalYield ++
    be4 (sl.closeSeq.getD 0) ++ word16Bytes (sl.closeDigest.getD 0) ++
    flagBytes [(match sl.geometry with | some g => g.round | none => false), sl.tallies.tested == 0,
      sl.limits.yield == .breach, sl.limits.seen, sl.exported, sl.pinned, sl.forceHold] := by
  have hrange : [first, BitVec.ofNat 8 upto] = be1 first.toNat ++ be1 upto := by rw [be1_toNat first]; rfl
  have hgeometry : sl.rows = (sl.geometry.getD ⟨0, 0, false⟩).rows ∧
      sl.cols = (sl.geometry.getD ⟨0, 0, false⟩).cols := by
    unfold Slot.rows Slot.cols
    cases sl.geometry <;> exact ⟨rfl, rfl⟩
  unfold wsumFields
  extract_lets t g id rc
  simp only [hrange, rollups_flatMap, ← List.append_assoc, hgeometry]
  refine congrArg₂ (· ++ ·) rfl (congrArg (fun b => flagBytes (b :: _)) ?_)
  simp only [g]
  cases sl.geometry <;> rfl

/-! ### LSUM (R136, R137) -/

section Lsum

variable {c : Instr} {tag : Byte} {ident : LotId} {first last position : Byte} {k : Fin 16} {s : State}

theorem lsumItem_badField (h : ¬ (1 ≤ first.toNat ∧ first.toNat ≤ last.toNat ∧ last.toNat ≤ 63)) :
    lsumItem c tag ident first last position s = .refuse c tag .badField s :=
  if_pos (Bool.not_eq_true _ ▸ mt binRangeOk_iff.1 h)

theorem lsumItem_noLot (h : 1 ≤ first.toNat ∧ first.toNat ≤ last.toNat ∧ last.toNat ≤ 63)
    (hlot : s.findLot ident = none) : lsumItem c tag ident first last position s = .refuse c tag .noLot s := by
  rw [lsumItem, binRangeOk_iff.2 h, if_neg (Bool.noConfusion : true ≠ false), lotItem_noLot hlot]

theorem lsumItem_found (h : 1 ≤ first.toNat ∧ first.toNat ≤ last.toNat ∧ last.toNat ≤ 63)
    (hlot : s.findLot ident = some k) : lsumItem c tag ident first last position s =
      if s.lots[k].state ≠ .opened ∧ s.lots[k].state ≠ .closed then .refuse c tag .wrongState s
      else .ok c tag (lsumFields k s.lots[k] (s.recipeOfLot k) first.toNat (min last.toNat (first.toNat + 15))
        position.toNat) s := by
  rw [lsumItem, binRangeOk_iff.2 h, if_neg (Bool.noConfusion : true ≠ false), lotItem_some hlot]
  by_cases hst : s.lots[k].state = .opened ∨ s.lots[k].state = .closed
  · rw [if_pos hst, if_neg (by tauto)]
    rfl
  · rw [if_neg hst, if_pos (by tauto)]

end Lsum

theorem lsumFields_eq (k : Fin 16) (l : Lot) (r : Recipe) (first position : Byte) {upto : Nat} (h : upto ≤ 63) :
    lsumFields k l r first.toNat upto position.toNat =
      (let served := (l.members.drop position.toNat).take 8
      be1 k.val ++ [l.state.code] ++ (match l.recipe with | some n => be1 n.val | none => [0xFF]) ++
      be1 l.members.length ++ be3 l.totals.tested ++ be3 l.totals.passed ++ be3 l.carry.tested ++
      be2 l.totals.yield ++
      ([1, 2, 3, 4, 5, 6, 7, 8].flatMap fun h => be3 (rollup r l.totals h)) ++
      [first, BitVec.ofNat 8 upto] ++ [BitVec.ofNat 8 (upto + 1 - first.toNat)] ++
      (((List.finRange 64).filter fun (b : Fin 64) => decide (first.toNat ≤ b.val ∧ b.val ≤ upto)).flatMap
        fun (b : Fin 64) => be3 l.totals.counts[b] ++ be2 (l.totals.share b)) ++
      binSetBytes l.limits.bins ++ [l.disposition.code] ++ [position] ++ be1 served.length ++
      (served.flatMap fun m => be1 m.wafer ++
        [if m.retired = true then 3 else if m.opening = true then 1 else 2, slotByte m.slot] ++
        finalYieldBytes m.finalYield ++ [m.disposition.code]) ++
      [if position.toNat + 8 < l.members.length then BitVec.ofNat 8 (position.toNat + 8) else 0xFF] ++
      flagBytes [l.totals.tested == 0, l.limits.yield == .breach, l.limits.seen]) := by
  have hrange : [first, BitVec.ofNat 8 upto] = be1 first.toNat ++ be1 upto := by rw [be1_toNat first]; rfl
  have hcount : [BitVec.ofNat 8 (upto + 1 - first.toNat)] = be1 (binsFrom first.toNat upto).length := by
    rw [binsFrom_length h]
    rfl
  unfold lsumFields
  extract_lets t rc served
  simp only [hrange, hcount, rollups_flatMap, ← List.append_assoc, ← be1_toNat position]
  rfl

/-! ### Figures and widths (R15, R94, R193) -/

theorem rollup_eq (r : Recipe) (t : Tallies) (h : Nat) : rollup r t h =
    (((List.finRange 64).filter fun (b : Fin 64) =>
      decide (b ≠ 0 ∧ r.entries[b].defined = true ∧ r.entries[b].hardBin = h)).map
        fun (b : Fin 64) => t.counts[b]).sum := by
  rw [rollup]
  induction List.finRange 64 with
  | nil => rfl
  | cons b l ih =>
    rw [List.map_cons, List.sum_cons, ih, List.filter_cons]
    by_cases hb : b ≠ 0 ∧ r.entries[b].defined = true ∧ r.entries[b].hardBin = h
    · rw [if_pos hb, if_pos (decide_eq_true hb), List.map_cons, List.sum_cons]
    · rw [if_neg hb, if_neg (by rwa [decide_eq_true_eq]), Nat.zero_add]

theorem basisPoints_le {count tested : Nat} (h : count ≤ tested) : basisPoints count tested ≤ 10000 := by
  unfold basisPoints
  split
  · omega
  · exact Nat.div_le_of_le_mul (by rw [Nat.mul_comm tested]; exact Nat.mul_le_mul_left _ h)

/-- Every tested cell is counted once by bin. -/
theorem sum_countP_bin (p : Nat → Bool) (f : Nat → Fin 64) (l : List Nat) :
    ∑ b : Fin 64, l.countP (fun k => p k && f k == b) = l.countP p := by
  induction l with
  | nil => simp
  | cons k l ih =>
    simp only [List.countP_cons, Finset.sum_add_distrib, ih]
    cases p k <;> simp

/-- R15: the rollups together are the counts of the defined bins, whose hard bins are 1 to 8. -/
theorem sum_rollup {r : Recipe} (hr : RecipeLaw r) (t : Tallies) :
    ([1, 2, 3, 4, 5, 6, 7, 8].map fun h => rollup r t h).sum =
      ∑ b : Fin 64, if b ≠ 0 ∧ r.entries[b].defined = true then t.counts[b] else 0 := by
  have hsum : ∀ h, rollup r t h = ∑ b : Fin 64,
      if b ≠ 0 ∧ r.entries[b].defined = true ∧ r.entries[b].hardBin = h then t.counts[b] else 0 :=
    fun h => (Fin.sum_univ_def _).symm
  rw [← List.sum_toFinset _ (by decide)]
  simp only [hsum]
  rw [Finset.sum_comm]
  refine Finset.sum_congr rfl fun b _ => ?_
  obtain ⟨-, h1, h8, -⟩ := hr.entries b
  by_cases hb : b ≠ 0 ∧ r.entries[b].defined = true
  · have hmem : r.entries[b].hardBin ∈ [1, 2, 3, 4, 5, 6, 7, 8].toFinset := by
      rw [List.mem_toFinset]
      simp only [List.mem_cons, List.not_mem_nil, or_false]
      omega
    have hcond : ∀ h, (b ≠ 0 ∧ r.entries[b].defined = true ∧ r.entries[b].hardBin = h) ↔ r.entries[b].hardBin = h :=
      fun h => by rw [← and_assoc, and_iff_right hb]
    rw [if_pos hb, Finset.sum_congr rfl fun h _ => if_congr (hcond h) rfl rfl, Finset.sum_ite_eq, if_pos hmem]
  · simp only [if_neg hb]
    exact Finset.sum_eq_zero fun h _ => if_neg fun hh => hb ⟨hh.1, hh.2.1⟩

/-- R15, R94: under the laws the rollups of a slot add up to its tested count, and no figure exceeds 10,000. -/
theorem figures_of_laws {s : State} {i : Fin 64} (hr : RecordsLaw s) (hm : MapLaw s) (ht : TallyLaw s)
    (hi : s.slots[i].inUse = true) :
    ([1, 2, 3, 4, 5, 6, 7, 8].map fun h => rollup (s.recipeOfSlot i) s.slots[i].tallies h).sum =
      s.slots[i].tallies.tested ∧
    s.slots[i].tallies.yield ≤ 10000 ∧ ∀ b : Fin 64, s.slots[i].tallies.share b ≤ 10000 := by
  obtain ⟨htested, hpassed, hcounts, -⟩ := ht.slots i hi
  have hle : ∀ {p q : Cell → Bool}, (∀ c, q c = true → p c = true) → cellCount s.slots[i] q ≤ cellCount s.slots[i] p :=
    fun h => List.countP_mono_left fun _ _ hq => h _ hq
  have hundefined : ∀ b : Fin 64, ¬ (b ≠ 0 ∧ (s.recipeOfSlot i).entries[b].defined = true) →
      s.slots[i].tallies.counts[b] = 0 := by
    intro b hb
    rw [hcounts b, cellCount, List.countP_eq_zero]
    intro k _ hk
    simp only [Bool.and_eq_true, beq_iff_eq] at hk
    obtain ⟨htest, rfl⟩ := hk
    have hstatus : (s.slots[i].cell k).status = .tested ∨ (s.slots[i].cell k).status = .forced := by
      simpa only [isTested, Bool.or_eq_true, beq_iff_eq] using htest
    exact hb ⟨(hr.cells i k).binned hstatus, hm.bins i hi k htest⟩
  refine ⟨?_, basisPoints_le ?_, fun b => basisPoints_le ?_⟩
  · have hrecipe : RecipeLaw (s.recipeOfSlot i) := recipeLaw_recipeAt hr _
    rw [sum_rollup hrecipe, htested, cellCount,
      ← sum_countP_bin (fun k => isTested (s.slots[i].cell k)) fun k => (s.slots[i].cell k).bin]
    refine Finset.sum_congr rfl fun b _ => ?_
    split
    · exact hcounts b
    · next hb => exact (hundefined b hb).symm.trans (hcounts b)
  · rw [htested, hpassed]
    exact hle fun c hc => (Bool.and_eq_true_iff.1 hc).1
  · rw [htested, hcounts b]
    exact hle fun c hc => (Bool.and_eq_true_iff.1 hc).1

/-- Settles O37: the items by their checks, the fields by `wsumFields_eq` and `lsumFields_eq`, and the figures. -/
theorem summariesAnswer : Obligations.SummariesAnswer := by
  refine ⟨fun tag slot first last s h => ⟨fun hslot => refuses_of_work rfl h (slotItem_badField hslot),
      fun i hslot => ?_⟩,
    fun tag ident first last position s h => ⟨fun hbad => refuses_of_work rfl h (lsumItem_badField hbad),
      fun h1 h2 h3 => ⟨fun hlot => refuses_of_work rfl h (lsumItem_noLot ⟨h1, h2, h3⟩ hlot), fun k hlot => ?_⟩⟩,
    rollup_eq, fun s i => figures_of_laws, fun _ _ => ⟨rfl, rfl⟩, fun _ => ⟨rfl, rfl, rfl, rfl, rfl⟩, rfl, fun _ => rfl,
    rfl⟩
  · rw [exec_engine rfl h, slotItem_some hslot]
    refine congrArg _ ?_
    by_cases hok : 1 ≤ first.toNat ∧ first.toNat ≤ last.toNat ∧ last.toNat ≤ 63
    · rw [if_neg (not_not.2 hok)]
      by_cases hu : s.slots[i].inUse = false
      · rw [if_pos (inUse_eq_false.1 hu), wsumWork_wrongState hok hu]
        exact Item.finish_refuse ..
      · rw [if_neg (mt inUse_eq_false.2 hu), wsumWork_served hok hu, Item.finish_ok, wsumFields_eq]
        rfl
    · rw [if_pos hok, wsumWork_badField hok]
      exact Item.finish_refuse ..
  · rw [exec_engine rfl h, lsumItem_found ⟨h1, h2, h3⟩ hlot]
    refine congrArg _ ?_
    by_cases hst : s.lots[k].state ≠ .opened ∧ s.lots[k].state ≠ .closed
    · rw [if_pos hst, if_pos hst]
      exact Item.finish_refuse ..
    · rw [if_neg hst, if_neg hst, Item.finish_ok, lsumFields_eq _ _ _ _ _ (by omega)]
      rfl

end Sys2Proof.Machine
end

section
/-! PROOFS. Lots (spec/06): OPLT, CLLT, RTLT and both forms of RLHD. -/

namespace Sys2Proof.Machine

open Sys2Proof.Safety

/-! ### Lots by identifier (R126) -/

theorem State.findLot_some {s : State} {ident : LotId} {k : Fin 16} (h : s.findLot ident = some k) :
    s.lots[k].state ≠ .free ∧ s.lots[k].ident = some ident := by
  have := List.find?_some h
  simpa only [Bool.and_eq_true, bne_iff_ne, beq_iff_eq] using this

theorem State.findLot_none {s : State} {ident : LotId} : s.findLot ident = none ↔
    ∀ k : Fin 16, s.lots[k].state ≠ .free → s.lots[k].ident ≠ some ident := by
  simp only [State.findLot, List.find?_eq_none, List.mem_finRange, true_implies, Bool.and_eq_true, bne_iff_ne,
    beq_iff_eq, not_and]

/-! ### OPLT (R124, R125) -/

section Oplt

variable {c : Instr} {tag recipe : Byte} {ident : LotId} {s : State} {r : Fin 8}

theorem allPrintable_iff : ident.all printable = true ↔ ∀ b ∈ ident, 0x20 ≤ b.toNat ∧ b.toNat ≤ 0x7E := by
  simp only [List.all_eq_true, printable, decide_eq_true_eq]

theorem opltItem_noRecipe (h : 8 ≤ recipe.toNat) : opltItem c tag ident recipe s = .refuse c tag .badField s := by
  rw [opltItem, recipeOf_eq_none h]

theorem opltItem_notPrintable (hr : recipe.toNat = r.val) (h : ∃ b ∈ ident, b.toNat < 0x20 ∨ 0x7E < b.toNat) :
    opltItem c tag ident recipe s = .refuse c tag .badField s := by
  have hp : ident.all printable = false := by
    obtain ⟨b, hb, hout⟩ := h
    rw [← Bool.not_eq_true]
    intro hall
    have := allPrintable_iff.1 hall b hb
    omega
  rw [opltItem, recipeOf_eq_some hr]
  exact if_pos hp

variable (hr : recipe.toNat = r.val) (hp : ∀ b ∈ ident, 0x20 ≤ b.toNat ∧ b.toNat ≤ 0x7E)
include hr hp

theorem opltItem_duplicate (h : ∃ k : Fin 16, s.lots[k].state ≠ .free ∧ s.lots[k].ident = some ident) :
    opltItem c tag ident recipe s = .refuse c tag .duplicate s := by
  have hfound : (s.findLot ident).isSome = true := by
    rw [Option.isSome_iff_ne_none]
    intro hnone
    obtain ⟨k, hk, hid⟩ := h
    exact State.findLot_none.1 hnone k hk hid
  rw [opltItem, recipeOf_eq_some hr]
  simp only [allPrintable_iff.2 hp, hfound, if_true, Bool.true_eq_false, if_false]

variable (h : ∀ k : Fin 16, s.lots[k].state ≠ .free → s.lots[k].ident ≠ some ident)
include h

theorem opltItem_full (hfull : ∀ k : Fin 16, s.lots[k].state ≠ .free) :
    opltItem c tag ident recipe s = .refuse c tag .lotTableFull s := by
  have hnone : ((List.finRange 16).find? fun k => s.lots[k].state == .free) = none :=
    List.find?_eq_none.2 fun k _ => mt beq_iff_eq.1 (hfull k)
  rw [opltItem, recipeOf_eq_some hr]
  simp only [allPrintable_iff.2 hp, State.findLot_none.2 h, Option.isSome_none, Bool.true_eq_false, if_false,
    Bool.false_eq_true, hnone]

theorem opltItem_first {k : Fin 16} (hk : s.lots[k].state = .free) (hbefore : ∀ j < k, s.lots[j].state ≠ .free) :
    opltItem c tag ident recipe s =
      if s.recipes[r].state = .valid then .ok c tag (be1 k.val) (s.setLot k (Lot.fresh ident r))
      else .refuse c tag .badRecipe s := by
  have hfirst : ((List.finRange 16).find? fun k => s.lots[k].state == .free) = some k :=
    find?_finRange_eq_some.2 ⟨beq_iff_eq.2 hk, fun j hj => beq_eq_false_iff_ne.2 (hbefore j hj)⟩
  rw [opltItem, recipeOf_eq_some hr]
  simp only [allPrintable_iff.2 hp, State.findLot_none.2 h, Option.isSome_none, Bool.true_eq_false, if_false,
    Bool.false_eq_true, hfirst]

end Oplt

/-- Settles O38: the checks one by one, and the first FREE entry. -/
theorem openLotTakesTheLowestFreeEntry : Obligations.OpenLotTakesTheLowestFreeEntry := by
  refine fun tag ident recipe s h => ⟨fun h8 => refuses_of_work rfl h (opltItem_noRecipe h8), fun r hr =>
    ⟨fun hbad => refuses_of_work rfl h (opltItem_notPrintable hr hbad), fun hp =>
      ⟨fun hdup => refuses_of_work rfl h (opltItem_duplicate hr hp hdup), fun hnew =>
        ⟨fun hfull => refuses_of_work rfl h (opltItem_full hr hp hnew hfull), fun k hk hbefore => ?_⟩⟩⟩⟩
  rw [exec_engine rfl h, opltItem_first hr hp hnew hk hbefore]
  refine congrArg _ ?_
  by_cases hv : s.recipes[r].state = .valid
  · rw [if_pos hv, if_pos hv]
    exact Item.finish_ok ..
  · rw [if_neg hv, if_neg hv]
    exact Item.finish_refuse ..

/-! ### CLLT (R129, R130) -/

theorem State.memberActive_iff {s : State} {m : Member} : s.memberActive m = true ↔ m.opening = true ∨
    ∃ i : Fin 64, m.slot = some i ∧ (s.slots[i].state = .opened ∨ s.slots[i].state = .closing) := by
  rw [State.memberActive, Bool.or_eq_true]
  refine or_congr Iff.rfl ?_
  cases m.slot with
  | none => simp
  | some i => simp

/-- Settles O39: the checks of `clltWork`, and the lot entry after its evaluation. -/
theorem closeLotSetsTheDisposition : Obligations.CloseLotSetsTheDisposition := by
  refine fun tag ident s h => ⟨fun hlot => refuses_of_work rfl h (lotItem_noLot hlot), fun k hlot => ?_⟩
  rw [exec_engine rfl h, lotItem_some hlot, clltWork]
  refine congrArg _ ?_
  by_cases hst : s.lots[k].state ≠ .opened
  · rw [if_pos hst, if_pos hst]
    exact Item.finish_refuse ..
  · rw [if_neg hst, if_neg hst]
    by_cases hact : s.lots[k].members.any s.memberActive = true
    · rw [if_pos hact, if_pos (by simpa only [List.any_eq_true, State.memberActive_iff] using hact)]
      exact Item.finish_refuse ..
    · rw [if_neg hact, if_neg (by simpa only [List.any_eq_true, State.memberActive_iff] using hact)]
      refine (Item.finish_alerts ..).trans ?_
      have hlimits : (s.evaluateLot k).1.lots[k] = { s.lots[k] with
          limits := evaluate (s.recipeOfLot k) (s.recipeOfLot k).scalars.lotFloor s.lots[k].totals
            s.lots[k].limits } := by
        rw [State.evaluateLot_fst, State.setLot, get_set_self]
      have hset : ∀ l : Lot, (s.evaluateLot k).1.setLot k l = s.setLot k l := fun l => by
        rw [State.evaluateLot_fst, State.setLot, State.setLot, State.setLot, Vector.set_set]
      rw [hset, hlimits]
      simp only [dispositionOf, Bool.or_eq_true, List.any_eq_true, beq_iff_eq]
      rfl

/-! ### RTLT (R133, R134) -/

theorem Lot.mem_memberSlots {l : Lot} {i : Fin 64} : i ∈ l.memberSlots ↔ ∃ m ∈ l.members, m.slot = some i := by
  simp only [Lot.memberSlots, List.mem_filter, List.mem_finRange, true_and, List.any_eq_true, beq_iff_eq]

theorem Slot.held_iff {sl : Slot} : sl.held = true ↔ sl.state = .exporting ∨ sl.busy ≠ none := by
  rw [Slot.held, Bool.or_eq_true, beq_iff_eq, Option.isSome_iff_ne_none]

/-- Settles O40: `rtltWork` on the lot's member slots. -/
theorem retireLotRetiresItsMembers : Obligations.RetireLotRetiresItsMembers := by
  refine fun tag ident s h => ⟨fun hlot => refuses_of_work rfl h (lotItem_noLot hlot), fun k hlot =>
    ⟨s.lots[k].memberSlots, pairwise_filter_finRange _, fun i => Lot.mem_memberSlots, ?_⟩⟩
  rw [exec_engine rfl h, lotItem_some hlot, rtltWork]
  refine congrArg _ ?_
  by_cases hst : s.lots[k].state ≠ .closed
  · simp only [if_pos hst]
    exact Item.finish_refuse ..
  · simp only [if_neg hst]
    have hany : s.lots[k].memberSlots.any (fun i => s.slots[i].held) = true ↔
        ∃ i ∈ s.lots[k].memberSlots, s.slots[i].state = .exporting ∨ s.slots[i].busy ≠ none := by
      simp only [List.any_eq_true, Slot.held_iff]
    by_cases hheld : s.lots[k].memberSlots.any (fun i => s.slots[i].held) = true
    · rw [if_pos hheld, if_pos (hany.1 hheld)]
      exact Item.finish_refuse ..
    · rw [if_neg hheld, if_neg (mt hany.2 hheld)]
      by_cases hnil : s.lots[k].memberSlots = []
      · rw [if_pos (List.isEmpty_iff.2 hnil), if_pos hnil]
        exact Item.finish_ok ..
      · rw [if_neg (mt List.isEmpty_iff.1 hnil), if_neg hnil]
        exact Item.finish_accept ..

/-! ### RLHD (R111, R131) -/

theorem rlhdWafer_badField {c : Instr} {tag kind slot : Byte} {work : Fin 64 → State → Item} {s : State}
    (h : kind.toNat ≠ 1 ∨ 64 ≤ slot.toNat) :
    (if kind = 1 then slotItem c tag slot work s else .refuse c tag .badField s) = .refuse c tag .badField s := by
  by_cases hk : kind = 1
  · rw [if_pos hk, slotItem_badField (h.resolve_left (not_not.2 (hk ▸ rfl)))]
  · rw [if_neg hk]

/-- Settles O41: both forms by their checks. -/
theorem releaseHold : Obligations.ReleaseHold := by
  refine ⟨fun tag kind slot ident s h => ⟨fun hbad => ?_, fun i hk hslot => ?_⟩,
    fun tag slot ident s h => ⟨fun hlot => refuses_of_work rfl h (lotItem_noLot hlot), fun k hlot => ?_⟩,
    fun s ident k => State.findLot_some, fun s ident => State.findLot_none, fun _ _ _ => rfl⟩
  · simp only [Refuses, exec, execRlhdWafer]
    rw [engineCommand_taken h, rlhdWafer_badField hbad, Item.finish_refuse]
  · simp only [exec, execRlhdWafer]
    have h1 : kind = 1 := BitVec.eq_of_toNat_eq hk
    rw [engineCommand_taken h, if_pos h1, slotItem_some hslot, rlhdWaferWork]
    refine congrArg _ ?_
    by_cases hst : s.slots[i].state = .closed ∧ s.slots[i].disposition = .hold
    · rw [if_pos hst]
      simp only [if_pos hst]
      exact Item.finish_ok ..
    · rw [if_neg hst]
      simp only [if_neg hst]
      exact Item.finish_refuse ..
  · rw [exec_engine rfl h, lotItem_some hlot, rlhdLotWork]
    refine congrArg _ ?_
    by_cases hst : s.lots[k].state = .closed ∧ s.lots[k].disposition = .hold
    · rw [if_pos hst, if_pos hst]
      exact Item.finish_ok ..
    · rw [if_neg hst, if_neg hst]
      exact Item.finish_refuse ..

end Sys2Proof.Machine
end

section
/-! PROOFS. Opening a wafer (spec/02, R22 to R26): where an open goes, and the item of an OPWF. -/

namespace Sys2Proof.Machine

open Sys2Proof.Safety

/-! ### The reclaim candidate (R26) -/

/-- Slot `i` closed before slot `j`, or with the same number and stands before it. -/
def ClosedBefore (s : State) (i j : Fin 64) : Prop :=
  s.slots[i].closeSeq.getD 0 < s.slots[j].closeSeq.getD 0 ∨
    (s.slots[i].closeSeq.getD 0 = s.slots[j].closeSeq.getD 0 ∧ i ≤ j)

theorem ClosedBefore.refl (s : State) (i : Fin 64) : ClosedBefore s i i := .inr ⟨rfl, le_rfl⟩

theorem ClosedBefore.trans {s : State} {i j k : Fin 64} (h : ClosedBefore s i j) (hk : ClosedBefore s j k) :
    ClosedBefore s i k := by
  unfold ClosedBefore at *
  omega

theorem ClosedBefore.antisymm {s : State} {i j : Fin 64} (h : ClosedBefore s i j) (hj : ClosedBefore s j i) :
    i = j := by
  unfold ClosedBefore at *
  omega

/-- The choice between a slot and one that stands after it. -/
theorem olderClosed_some {s : State} {b i : Fin 64} (h : b < i) :
    ∃ m, olderClosed s (some b) i = some m ∧ (m = b ∨ m = i) ∧ ClosedBefore s m b ∧ ClosedBefore s m i := by
  by_cases hlt : s.slots[i].closeSeq.getD 0 < s.slots[b].closeSeq.getD 0
  · exact ⟨i, if_pos hlt, .inr rfl, .inl hlt, .refl s i⟩
  · refine ⟨b, if_neg hlt, .inl rfl, .refl s b, ?_⟩
    unfold ClosedBefore
    omega

theorem foldl_olderClosed_some {s : State} {l : List (Fin 64)} {b : Fin 64} (hl : (b :: l).Pairwise (· < ·)) :
    ∃ m, l.foldl (olderClosed s) (some b) = some m ∧ m ∈ b :: l ∧ ∀ j ∈ b :: l, ClosedBefore s m j := by
  induction l generalizing b with
  | nil => exact ⟨b, rfl, List.mem_singleton.2 rfl, fun j hj => List.mem_singleton.1 hj ▸ .refl s b⟩
  | cons i l ih =>
    obtain ⟨hb, hil⟩ := List.pairwise_cons.1 hl
    obtain ⟨hi, hl'⟩ := List.pairwise_cons.1 hil
    obtain ⟨n, hn, hor, hnb, hni⟩ := olderClosed_some (s := s) (hb i List.mem_cons_self)
    have hnl : (n :: l).Pairwise (· < ·) := by
      refine List.pairwise_cons.2 ⟨fun j hj => ?_, hl'⟩
      obtain rfl | rfl := hor
      · exact hb j (List.mem_cons_of_mem i hj)
      · exact hi j hj
    obtain ⟨m, hm, hmem, hbefore⟩ := ih hnl
    have hmn := hbefore n List.mem_cons_self
    refine ⟨m, by rw [List.foldl_cons, hn, hm], ?_, fun j hj => ?_⟩
    · obtain rfl | hmem := List.mem_cons.1 hmem
      · obtain rfl | rfl := hor
        · exact List.mem_cons_self
        · exact List.mem_cons_of_mem b List.mem_cons_self
      · exact List.mem_cons_of_mem b (List.mem_cons_of_mem i hmem)
    · obtain rfl | hj := List.mem_cons.1 hj
      · exact hmn.trans hnb
      · obtain rfl | hj := List.mem_cons.1 hj
        · exact hmn.trans hni
        · exact hbefore j (List.mem_cons_of_mem n hj)

theorem mem_candidates {s : State} {i : Fin 64} :
    i ∈ (List.finRange 64).filter (fun i => s.slots[i].reclaimable) ↔ s.slots[i].reclaimable = true := by
  simp only [List.mem_filter, List.mem_finRange, true_and]

theorem State.reclaimSlot_none {s : State} : s.reclaimSlot = none ↔ ∀ i : Fin 64, ¬ s.slots[i].reclaimable = true := by
  unfold State.reclaimSlot
  cases hl : (List.finRange 64).filter fun i => s.slots[i].reclaimable with
  | nil =>
    refine ⟨fun _ i hi => ?_, fun _ => rfl⟩
    have := mem_candidates.2 hi
    rw [hl] at this
    cases this
  | cons b l =>
    have hsorted : (b :: l).Pairwise (· < ·) := hl ▸ pairwise_filter_finRange _
    obtain ⟨m, hm, -⟩ := foldl_olderClosed_some (s := s) hsorted
    refine ⟨fun hnone => ?_, fun h => ?_⟩
    · cases hnone.symm.trans hm
    · exact absurd (mem_candidates.1 (hl ▸ List.mem_cons_self)) (h b)

/-- R26: the candidate that closed first. -/
theorem State.reclaimSlot_some {s : State} {i : Fin 64} : s.reclaimSlot = some i ↔
    s.slots[i].reclaimable = true ∧ ∀ j : Fin 64, s.slots[j].reclaimable = true → ClosedBefore s i j := by
  have hchosen : ∀ m, s.reclaimSlot = some m → ∀ j : Fin 64, s.slots[j].reclaimable = true → ClosedBefore s m j := by
    intro m hm j hj
    unfold State.reclaimSlot at hm
    have hmem := mem_candidates.2 hj
    cases hl : (List.finRange 64).filter fun i => s.slots[i].reclaimable with
    | nil =>
      rw [hl] at hmem
      cases hmem
    | cons b l =>
      have hsorted : (b :: l).Pairwise (· < ·) := hl ▸ pairwise_filter_finRange _
      obtain ⟨n, hn, -, hbefore⟩ := foldl_olderClosed_some (s := s) hsorted
      rw [hl] at hm hmem
      obtain rfl : n = m := Option.some.inj (hn.symm.trans hm)
      exact hbefore j hmem
  refine ⟨fun h => ⟨State.reclaimSlot_reclaimable h, hchosen i h⟩, fun ⟨hi, hfirst⟩ => ?_⟩
  cases hr : s.reclaimSlot with
  | none => exact absurd hi (State.reclaimSlot_none.1 hr i)
  | some m => rw [(hchosen m hr i hi).antisymm (hfirst m (State.reclaimSlot_reclaimable hr))]

/-! ### The three steps (R23) -/

section Steps

variable {s : State} {i : Fin 64}

/-- R23: the lowest-numbered FREE slot. -/
def State.freeSlot (s : State) : Option (Fin 64) := (List.finRange 64).find? fun i => s.slots[i].state == .free

/-- R23: the CLEARING slot nearest the head of the Clear Unit's list that has no pending open. -/
def State.clearingSlot (s : State) : Option (Fin 64) := s.clearList.find? fun i => s.slots[i].pendingOpen.isNone

theorem State.openPlace_cases (s : State) : (∃ i, s.freeSlot = some i ∧ s.openPlace = .free i) ∨
    (s.freeSlot = none ∧ ∃ i, s.clearingSlot = some i ∧ s.openPlace = .clearing i) ∨
    (s.freeSlot = none ∧ s.clearingSlot = none ∧ ∃ i, s.reclaimSlot = some i ∧ s.openPlace = .reclaim i) ∨
    (s.freeSlot = none ∧ s.clearingSlot = none ∧ s.reclaimSlot = none ∧ s.openPlace = .noSlot) := by
  unfold State.openPlace State.freeSlot State.clearingSlot
  cases (List.finRange 64).find? fun i => s.slots[i].state == .free with
  | some i => exact .inl ⟨i, rfl, rfl⟩
  | none =>
    cases s.clearList.find? fun i => s.slots[i].pendingOpen.isNone with
    | some i => exact .inr (.inl ⟨rfl, i, rfl, rfl⟩)
    | none =>
      cases s.reclaimSlot with
      | some i => exact .inr (.inr (.inl ⟨rfl, rfl, i, rfl, rfl⟩))
      | none => exact .inr (.inr (.inr ⟨rfl, rfl, rfl, rfl⟩))

theorem State.openPlace_free : s.openPlace = .free i ↔ s.freeSlot = some i := by
  obtain ⟨j, hf, h⟩ | ⟨hf, j, -, h⟩ | ⟨hf, -, j, -, h⟩ | ⟨hf, -, -, h⟩ := s.openPlace_cases <;> simp [hf, h]

theorem State.openPlace_clearing : s.openPlace = .clearing i ↔ s.freeSlot = none ∧ s.clearingSlot = some i := by
  obtain ⟨j, hf, h⟩ | ⟨hf, j, hc, h⟩ | ⟨hf, hc, j, -, h⟩ | ⟨hf, hc, -, h⟩ := s.openPlace_cases <;> simp [*]

theorem State.openPlace_reclaim :
    s.openPlace = .reclaim i ↔ s.freeSlot = none ∧ s.clearingSlot = none ∧ s.reclaimSlot = some i := by
  obtain ⟨j, hf, h⟩ | ⟨hf, j, hc, h⟩ | ⟨hf, hc, j, hr, h⟩ | ⟨hf, hc, hr, h⟩ := s.openPlace_cases <;> simp [*]

theorem State.openPlace_noSlot :
    s.openPlace = .noSlot ↔ s.freeSlot = none ∧ s.clearingSlot = none ∧ s.reclaimSlot = none := by
  obtain ⟨j, hf, h⟩ | ⟨hf, j, hc, h⟩ | ⟨hf, hc, j, hr, h⟩ | ⟨hf, hc, hr, h⟩ := s.openPlace_cases <;> simp [*]

theorem State.freeSlot_some :
    s.freeSlot = some i ↔ s.slots[i].state = .free ∧ ∀ j : Fin 64, j < i → s.slots[j].state ≠ .free := by
  simp only [State.freeSlot, find?_finRange_eq_some, beq_iff_eq, beq_eq_false_iff_ne, ne_eq]

theorem State.freeSlot_none : s.freeSlot = none ↔ ∀ j : Fin 64, s.slots[j].state ≠ .free := by
  simp only [State.freeSlot, List.find?_eq_none, List.mem_finRange, true_implies, beq_iff_eq, ne_eq]

theorem State.clearingSlot_some : s.clearingSlot = some i ↔
    ∃ before after : List (Fin 64), s.clearList = before ++ i :: after ∧ s.slots[i].pendingOpen = none ∧
      ∀ j ∈ before, s.slots[j].pendingOpen ≠ none := by
  simp only [State.clearingSlot, List.find?_eq_some_iff_append, Option.isNone_iff_eq_none, Bool.not_eq_true',
    Option.isNone_eq_false_iff, Option.isSome_iff_ne_none]
  constructor
  · rintro ⟨hi, before, after, hl, hb⟩
    exact ⟨before, after, hl, hi, hb⟩
  · rintro ⟨before, after, hl, hi, hb⟩
    exact ⟨hi, before, after, hl, hb⟩

theorem State.clearingSlot_none : s.clearingSlot = none ↔ ∀ j ∈ s.clearList, s.slots[j].pendingOpen ≠ none := by
  simp only [State.clearingSlot, List.find?_eq_none, Option.isNone_iff_eq_none, ne_eq]

end Steps

/-- Settles O43: the three steps one by one. -/
theorem openPlaceTakesTheFirstStep : Obligations.OpenPlaceTakesTheFirstStep := by
  intro s
  refine ⟨fun i => ?_, fun i => ?_, fun i => ?_, ?_⟩
  · rw [State.openPlace_free, State.freeSlot_some]
  · rw [State.openPlace_clearing, State.freeSlot_none, State.clearingSlot_some]
  · simp only [State.openPlace_reclaim, State.freeSlot_none, State.clearingSlot_none, State.reclaimSlot_some,
      Slot.reclaimable_iff, ClosedBefore]
  · simp only [State.openPlace_noSlot, State.freeSlot_none, State.clearingSlot_none, State.reclaimSlot_none,
      Slot.reclaimable_iff]

/-! ### OPWF (R22 to R26) -/

/-- Settles O42: the checks in order, then the place that `openPlace` gives. -/
theorem openWaferFindsItsSlot : Obligations.OpenWaferFindsItsSlot := by
  refine fun tag ident wafer rows cols round hold s h => ⟨fun hlot => refuses_of_work rfl h ?_, fun k hlot => ?_⟩
  · rw [opwfItem, hlot]
  rw [exec_engine rfl h, opwfItem, hlot]
  refine congrArg _ ?_
  by_cases hst : s.lots[k].state ≠ .opened
  · rw [if_pos hst]
    exact (congrArg Item.finish (if_pos hst)).trans (Item.finish_refuse ..)
  rw [if_neg hst]
  refine (congrArg Item.finish (if_neg hst)).trans ?_
  have hdup_iff : s.lots[k].members.any (fun m => m.wafer == wafer.toNat) = true ↔
      ∃ m ∈ s.lots[k].members, m.wafer = wafer.toNat := by simp only [List.any_eq_true, beq_iff_eq]
  by_cases hdup : ∃ m ∈ s.lots[k].members, m.wafer = wafer.toNat
  · rw [if_pos hdup, if_pos (hdup_iff.2 hdup)]
    exact Item.finish_refuse ..
  rw [if_neg hdup, if_neg (mt hdup_iff.1 hdup)]
  by_cases hfull : 50 ≤ s.lots[k].members.length
  · rw [if_pos hfull, if_pos hfull]
    exact Item.finish_refuse ..
  rw [if_neg hfull, if_neg hfull]
  by_cases hbad : wafer.toNat = 0 ∨ 50 < wafer.toNat ∨ rows.toNat = 0 ∨ 256 < rows.toNat ∨ cols.toNat = 0 ∨
      256 < cols.toNat
  · have hout : ¬ (1 ≤ wafer.toNat ∧ wafer.toNat ≤ 50 ∧ 1 ≤ rows.toNat ∧ rows.toNat ≤ 256 ∧ 1 ≤ cols.toNat ∧
        cols.toNat ≤ 256) := by omega
    rw [if_pos hbad]
    exact (congrArg Item.finish (if_pos hout)).trans (Item.finish_refuse ..)
  have hin : 1 ≤ wafer.toNat ∧ wafer.toNat ≤ 50 ∧ 1 ≤ rows.toNat ∧ rows.toNat ≤ 256 ∧ 1 ≤ cols.toNat ∧
      cols.toNat ≤ 256 := by omega
  rw [if_neg hbad]
  refine (congrArg Item.finish (if_neg (not_not.2 hin))).trans ?_
  cases s.openPlace with
  | free i => exact Item.finish_ok ..
  | clearing i => exact Item.finish_accept ..
  | reclaim i => exact Item.finish_accept ..
  | noSlot => exact Item.finish_refuse ..

end Sys2Proof.Machine
end

section
/-! PROOFS. The Map Store (spec/02): the end of a clearing, the retirement of a slot, and pins. -/

namespace Sys2Proof.Machine

open Sys2Proof.Safety

theorem filter_bne {α β : Type} [DecidableEq β] (l : List α) (f : α → β) (b : β) :
    (l.filter fun a => f a != b) = l.filter fun a => f a ≠ b :=
  List.filter_congr fun a _ => by rw [Bool.eq_iff_iff, bne_iff_ne, decide_eq_true_eq]

/-! ### CLEARING_END (R31, R135) -/

section ClearingEnd

variable {s : State} {i : Fin 64} {k : Fin 16}

/-- R135: a RETIRING entry whose retirement set holds the slot. -/
def AwaitsClearing (l : Lot) (i : Fin 64) : Prop :=
  l.state = .retiring ∧ ∃ r, l.retirement = some r ∧ i ∈ r.slots

theorem awaitsClearing_iff {l : Lot} : (l.state == .retiring && (match l.retirement with
    | some t => t.slots.contains i
    | none => false)) = true ↔ AwaitsClearing l i := by
  rw [AwaitsClearing, Bool.and_eq_true, beq_iff_eq]
  refine and_congr_right fun _ => ?_
  cases l.retirement with
  | none => exact ⟨nofun, fun ⟨_, h, _⟩ => nomatch h⟩
  | some r => exact List.contains_iff_mem.trans ⟨fun h => ⟨r, rfl, h⟩, fun ⟨_, h, hi⟩ => Option.some.inj h ▸ hi⟩

theorem State.retiringLot_none : s.retiringLot i = none ↔ ∀ k : Fin 16, ¬ AwaitsClearing s.lots[k] i := by
  refine List.find?_eq_none.trans ⟨fun h k => ?_, fun h k _ => ?_⟩
  · exact mt awaitsClearing_iff.2 (h k (List.mem_finRange k))
  · exact mt awaitsClearing_iff.1 (h k)

theorem State.retiringLot_some : s.retiringLot i = some k ↔
    AwaitsClearing s.lots[k] i ∧ ∀ j < k, ¬ AwaitsClearing s.lots[j] i := by
  refine find?_finRange_eq_some.trans (and_congr awaitsClearing_iff (forall₂_congr fun j _ => ?_))
  exact Bool.eq_false_iff.trans (not_congr awaitsClearing_iff)

/-- R135: the slot leaves the set, and an emptied set frees the entry. -/
theorem State.leaveRetirement_some {r : Retirement} (h : s.retiringLot i = some k)
    (hr : s.lots[k].retirement = some r) : s.leaveRetirement i = if (r.slots.filter fun j => j ≠ i) = [] then
        (s.setLot k Lot.free, [⟨r.tag, 0x14, .ok, be1 k.val⟩])
      else (s.setLot k { s.lots[k] with retirement := some ⟨r.slots.filter fun j => j ≠ i, r.tag⟩ }, []) := by
  have hfilter : (r.slots.filter fun j => j != i) = r.slots.filter fun j => j ≠ i :=
    filter_bne r.slots id i
  simp only [State.leaveRetirement, h, hr, hfilter, List.isEmpty_iff]

theorem State.leaveRetirement_none (h : s.retiringLot i = none) : s.leaveRetirement i = (s, []) := by
  simp only [State.leaveRetirement, h]

theorem State.endClearing_none (h : s.slots[i].pendingOpen = none) :
    s.endClearing i = (s.setSlot i { s.slots[i] with state := .free, cells := [] }, []) := by
  simp only [State.endClearing, h]

theorem State.endClearing_some {o : PendingOpen} (h : s.slots[i].pendingOpen = some o) : s.endClearing i =
    ((s.initSlot i o).setMember (some ⟨o.lot, o.wafer⟩) fun m => { m with slot := some i, opening := false },
      [⟨o.tag, 0x16, .ok, be1 i.val⟩]) := by
  simp only [State.endClearing, h]

/-- The end of a clearing leaves states and retirement sets of lots alone. -/
theorem State.endClearing_lot (s : State) (i : Fin 64) (k : Fin 16) :
    (s.endClearing i).1.lots[k].state = s.lots[k].state ∧
      (s.endClearing i).1.lots[k].retirement = s.lots[k].retirement := by
  cases h : s.slots[i].pendingOpen with
  | none =>
    rw [State.endClearing_none h]
    exact ⟨rfl, rfl⟩
  | some o =>
    rw [State.endClearing_some h, State.setMember, State.setLot, get_set]
    by_cases hk : o.lot = k
    · subst hk
      rw [if_pos rfl]
      exact ⟨rfl, rfl⟩
    · rw [if_neg hk]
      exact ⟨rfl, rfl⟩

theorem State.endClearing_completions (s : State) (i : Fin 64) : (s.endClearing i).1.completions = s.completions := by
  cases h : s.slots[i].pendingOpen with
  | none => rw [State.endClearing_none h]; rfl
  | some o => rw [State.endClearing_some h]; rfl

theorem State.leaveRetirement_completions (s : State) (i : Fin 64) :
    (s.leaveRetirement i).1.completions = s.completions := by
  obtain he | ⟨k, r, -, -, ⟨-, he⟩ | ⟨-, he⟩⟩ := s.leaveRetirement_cases i <;> rw [he] <;> rfl

theorem exec_clearingEnd {rest : List (Fin 64)} (hpin : s.resetPin = false) (hl : s.clearList = i :: rest) :
    exec .clearingEnd s = .next (
      let a := { s with clearList := rest }.endClearing i
      let b := a.1.leaveRetirement i
      { b.1 with completions := s.completions ++ a.2 ++ b.2 }) := by
  simp only [exec, execClearingEnd, hl, hpin, Bool.false_eq_true, if_false, State.hand,
    State.leaveRetirement_completions, State.endClearing_completions, List.append_assoc]

end ClearingEnd

/-- Settles O45: `endClearing`, then `leaveRetirement`. -/
theorem clearingEndOpensOrFrees : Obligations.ClearingEndOpensOrFrees := by
  refine ⟨fun i rest s hpin hl => ?_, fun s hl => by simp only [exec, execClearingEnd, hl]⟩
  obtain ⟨t, first, ha⟩ : ∃ t first, { s with clearList := rest }.endClearing i = (t, first) := ⟨_, _, rfl⟩
  obtain ⟨u, second, hb⟩ : ∃ u second, t.leaveRetirement i = (u, second) := ⟨_, _, rfl⟩
  have hlots : ∀ k : Fin 16, t.lots[k].state = s.lots[k].state ∧ t.lots[k].retirement = s.lots[k].retirement := by
    intro k
    have := State.endClearing_lot { s with clearList := rest } i k
    rwa [ha] at this
  refine ⟨t, u, first, second, ?_, fun hnone => ?_, fun o ho => ?_, fun hnot => ?_, fun k r hst hr hi hbefore => ?_⟩
  · rw [exec_clearingEnd hpin hl]
    simp only [ha, hb]
  · rw [State.endClearing_none (s := { s with clearList := rest }) hnone] at ha
    obtain ⟨rfl, rfl⟩ := Prod.mk.inj ha
    exact ⟨rfl, rfl⟩
  · rw [State.endClearing_some (s := { s with clearList := rest }) ho] at ha
    obtain ⟨rfl, rfl⟩ := Prod.mk.inj ha
    exact ⟨rfl, rfl⟩
  · have hfree : t.retiringLot i = none := State.retiringLot_none.2 fun k ⟨hst, r, hr, hi⟩ =>
      hnot k ((hlots k).1.symm.trans hst) r ((hlots k).2.symm.trans hr) hi
    rw [State.leaveRetirement_none hfree] at hb
    obtain ⟨rfl, rfl⟩ := Prod.mk.inj hb
    exact ⟨rfl, rfl⟩
  · have hfound : t.retiringLot i = some k := State.retiringLot_some.2
      ⟨⟨(hlots k).1.trans hst, r, (hlots k).2.trans hr, hi⟩, fun j hj ⟨hsj, q, hq, hiq⟩ =>
        hbefore j q hj ((hlots j).1.symm.trans hsj) ((hlots j).2.symm.trans hq) hiq⟩
    rw [State.leaveRetirement_some hfound ((hlots k).2.trans hr)] at hb
    by_cases hleft : (r.slots.filter fun j => j ≠ i) = []
    · rw [if_pos hleft] at hb
      rw [if_pos hleft]
      obtain ⟨rfl, rfl⟩ := Prod.mk.inj hb
      exact ⟨rfl, rfl⟩
    · rw [if_neg hleft] at hb
      rw [if_neg hleft]
      obtain ⟨rfl, rfl⟩ := Prod.mk.inj hb
      exact ⟨rfl, rfl⟩

/-! ### RTWF (R32, R33) -/

theorem State.retire_of_identity {s : State} {i : Fin 64} {d : Identity} (h : s.slots[i].identity = some d) :
    s.retire i = { s with
      lots := s.lots.set d.lot { s.lots[d.lot] with
        carry := {
          tested := s.lots[d.lot].carry.tested + s.slots[i].tallies.tested
          passed := s.lots[d.lot].carry.passed + s.slots[i].tallies.passed
          counts := Vector.ofFn fun b => s.lots[d.lot].carry.counts[b] + s.slots[i].tallies.counts[b] }
        members := s.lots[d.lot].members.map fun m =>
          if m.wafer = d.wafer then { m with slot := none, retired := true } else m }
      directory := s.directory.filter fun e => e.slot ≠ i
      slots := s.slots.set i {
        state := .clearing, identity := none, recipe := none, geometry := none, mapSize := 0, tallies := Tallies.zero
        shadowed := 0, disposition := .none, closeDigest := none, finalYield := none, closeSeq := none
        exported := false, forceHold := false, pinned := false, pendingOpen := none, busy := none
        limits := LimitStates.clear, cells := s.slots[i].cells }
      pinCount := s.pinCount - (if s.slots[i].pinned = true then 1 else 0)
      clearList := s.clearList ++ [i] } := by
  have hpin : s.slots[i].pinned.toNat = if s.slots[i].pinned = true then 1 else 0 := by
    cases s.slots[i].pinned <;> rfl
  simp only [State.retire, State.foldCarry, h, State.setMember, State.setLot, State.enterClearing, State.setSlot,
    get_set_self, Vector.set_set, hpin, filter_bne]
  rfl

section Rtwf

variable {c : Instr} {tag : Byte} {i : Fin 64} {s : State}

theorem rtwfWork_finish : (rtwfWork c tag i s).finish =
    if s.slots[i].state = .exporting then answered (.rsp tag c.code .busy []) s
    else if s.slots[i].state ≠ .closed then answered (.rsp tag c.code .wrongState []) s
    else if s.slots[i].busy ≠ none then answered (.rsp tag c.code .busy []) s
    else answered (.rsp tag c.code .ok []) (s.retire i) := by
  simp only [rtwfWork, apply_ite Item.finish, Item.finish_refuse, Item.finish_ok, Option.isSome_iff_ne_none]

/-! ### PINS and UPIN (R34, R35) -/

theorem pinsWork_finish : (pinsWork c tag i s).finish =
    if s.slots[i].state = .free ∨ s.slots[i].state = .clearing then answered (.rsp tag c.code .notInUse []) s
    else if s.slots[i].pinned = true then answered (.rsp tag c.code .ok []) s
    else if 16 ≤ s.pinCount then answered (.rsp tag c.code .pinFull []) s
    else answered (.rsp tag c.code .ok []) { s with
      slots := s.slots.set i { s.slots[i] with pinned := true }, pinCount := s.pinCount + 1 } := by
  simp only [pinsWork, apply_ite Item.finish, Item.finish_refuse, Item.finish_ok, inUse_eq_false]
  rfl

theorem upinWork_finish : (upinWork c tag i s).finish =
    if s.slots[i].state = .free ∨ s.slots[i].state = .clearing then answered (.rsp tag c.code .notInUse []) s
    else if s.slots[i].pinned = false then answered (.rsp tag c.code .ok []) s
    else answered (.rsp tag c.code .ok []) { s with
      slots := s.slots.set i { s.slots[i] with pinned := false }, pinCount := s.pinCount - 1 } := by
  simp only [upinWork, apply_ite Item.finish, Item.finish_refuse, Item.finish_ok, inUse_eq_false]
  cases s.slots[i].pinned <;> rfl

end Rtwf

/-- Settles O46: the checks of `rtwfWork`, and `State.retire` field by field. -/
theorem retireWafer : Obligations.RetireWafer := by
  refine ⟨fun tag slot s h => ⟨fun hslot => refuses_of_work rfl h (slotItem_badField hslot), fun i hslot => ?_⟩,
    fun s i d => State.retire_of_identity⟩
  rw [exec_engine rfl h, slotItem_some hslot, rtwfWork_finish]
  rfl

/-- Settles O47: both items by their checks. -/
theorem pinAndUnpinSlot : Obligations.PinAndUnpinSlot := by
  refine ⟨fun tag slot s h => ⟨fun hslot => refuses_of_work rfl h (slotItem_badField hslot), fun i hslot => ?_⟩,
    fun tag slot s h => ⟨fun hslot => refuses_of_work rfl h (slotItem_badField hslot), fun i hslot => ?_⟩⟩
  · rw [exec_engine rfl h, slotItem_some hslot, pinsWork_finish]
    rfl
  · rw [exec_engine rfl h, slotItem_some hslot, upinWork_finish]
    rfl

end Sys2Proof.Machine
end

section
/-! PROOFS. Closing, retest and digests (spec/07): CLWF and the end of its sweep, RPWF, DGST and the end of its job. -/

namespace Sys2Proof.Machine

open Sys2Proof.Safety

/-! ### The Sweep Unit's queue (R138) -/

theorem sweepRoom_iff {s : State} : s.sweepRoom = false ↔ 8 ≤ s.jobs.length := by
  rw [State.sweepRoom, decide_eq_false_iff_not, not_lt]

/-! ### CLWF (R141, R142) -/

theorem State.alarmClears_eq (s : State) (i : Fin 64) : s.alarmClears i =
    (List.finRange 12).flatMap fun (n : Fin 12) => (List.finRange 4).flatMap fun (a : Fin 4) =>
      if s.testers[n].bindings[a].slot = some i ∧ s.testers[n].bindings[a].alarm = true then
        [.runAlarm .clear n (a.val + 1) i 0] else [] := by
  refine congrArg (fun f => List.flatMap f _) (funext fun n => ?_)
  rw [List.filterMap_eq_flatMap_toList]
  refine congrArg (fun f => List.flatMap f _) (funext fun a => ?_)
  exact apply_ite Option.toList ..

theorem clwfWork_finish (c : Instr) (tag : Byte) (i : Fin 64) (s : State) : (clwfWork c tag i s).finish =
    if s.slots[i].state ≠ .opened then answered (.rsp tag c.code .wrongState []) s
    else if s.slots[i].busy ≠ none ∨ 8 ≤ s.jobs.length then answered (.rsp tag c.code .busy []) s
    else answered (.acc tag c.code (be1 i.val ++ be1 s.jobs.length))
      (({ (s.unbindAll i).setSlot i { s.slots[i] with state := .closing, busy := some .sweep } with
        jobs := s.jobs ++ [sweepJob s i tag] } : State).offerAll 1 (s.alarmClears i)) := by
  simp only [clwfWork, apply_ite Item.finish, Item.finish_refuse, Item.finish_alerts, Option.isSome_iff_ne_none,
    sweepRoom_iff, ← ite_or]

/-! ### SWEEP_END (R145, R146) -/

theorem exec_sweepEnd {s : State} {j : Job} {rest : List Job} (hpin : s.resetPin = false) (hj : s.jobs = j :: rest)
    (hk : j.kind = .sweep) : exec .sweepEnd s = .next (s.endSweep j rest) := by
  simp only [exec, execSweepEnd, hj, hpin, hk, and_self, if_true]

theorem exec_sweepEnd_idle {s : State} (h : ∀ j rest, s.jobs = j :: rest → j.kind ≠ .sweep) :
    exec .sweepEnd s = .next s := by
  simp only [exec, execSweepEnd]
  cases hj : s.jobs with
  | nil => rfl
  | cons j rest => exact if_neg fun hk => h j rest hj hk.2

/-- R145: the whole state after the end of a sweep. -/
theorem State.endSweep_eq (s : State) (j : Job) (rest : List Job) : s.endSweep j rest =
    (let sl := s.slots[j.slot]
    let r := s.recipeOfSlot j.slot
    let limits := evaluate r r.scalars.waferFloor sl.tallies sl.limits
    let figure := sl.tallies.yield
    let seq := nextCloseSeq s.closeSeq
    let digest := digestCellsFrom j.register sl.cells j.next j.stop
    let t := ({ s with
      slots := s.slots.set j.slot ({ sl with limits := limits }.closedBy digest seq)
      closeSeq := seq, jobs := rest } : State).setMember sl.identity fun m =>
        { m with finalYield := some figure, disposition := dispositionOf limits.seen }
    let u := t.offerAll 0 (s.evaluateSlot j.slot).2
    { u with completions := s.completions ++
      [⟨j.tag, 0x17, .ok, closeFields j.slot ({ sl with limits := limits }.closedBy digest seq)⟩] }) := by
  have hslot : (s.evaluateSlot j.slot).1.slots[j.slot] = { s.slots[j.slot] with
      limits := evaluate (s.recipeOfSlot j.slot) (s.recipeOfSlot j.slot).scalars.waferFloor s.slots[j.slot].tallies
        s.slots[j.slot].limits } := by
    rw [State.evaluateSlot_fst, State.setSlot, get_set_self]
  have hset : ∀ sl, (s.evaluateSlot j.slot).1.setSlot j.slot sl = s.setSlot j.slot sl := fun sl => by
    rw [State.evaluateSlot_fst, State.setSlot, State.setSlot, State.setSlot, Vector.set_set]
  simp only [State.endSweep, hslot, hset, State.hand, State.offerAll_completions, State.setMember_completions]
  rfl

/-- Settles O48: the item of CLWF by its checks, and `endSweep` field by field. -/
theorem closeWaferAndItsSweep : Obligations.CloseWaferAndItsSweep := by
  refine ⟨fun tag slot s h => ⟨fun hslot => refuses_of_work rfl h (slotItem_badField hslot), fun i hslot => ?_⟩,
    fun j rest s hpin hj hk => ?_, fun s => exec_sweepEnd_idle⟩
  · rw [exec_engine rfl h, slotItem_some hslot, clwfWork_finish, State.alarmClears_eq]
    rfl
  · rw [exec_sweepEnd hpin hj hk, State.endSweep_eq]
    rfl

/-! ### DGST and DIGEST_END (R153, R154) -/

theorem dgstWork_finish (c : Instr) (tag : Byte) (start count : Word16) (i : Fin 64) (s : State) :
    (dgstWork c tag start count i s).finish =
      if s.slots[i].state ≠ .opened ∧ s.slots[i].state ≠ .closed ∧ s.slots[i].state ≠ .exporting then
        answered (.rsp tag c.code .wrongState []) s
      else if s.slots[i].busy ≠ none ∨ 8 ≤ s.jobs.length then answered (.rsp tag c.code .busy []) s
      else if s.slots[i].size < start.toNat + digestCells count then answered (.rsp tag c.code .range []) s
      else answered (.acc tag c.code (be1 i.val ++ be1 s.jobs.length)) { s with
        slots := s.slots.set i { s.slots[i] with busy := some .digest }
        jobs := s.jobs ++
          [⟨.digest, i, tag, start, count, start.toNat, start.toNat + digestCells count, 0xFFFF⟩] } := by
  simp only [dgstWork, apply_ite Item.finish, Item.finish_refuse, Item.finish_accept, Option.isSome_iff_ne_none,
    sweepRoom_iff, ← ite_or]
  rfl

theorem exec_digestEnd {s : State} {j : Job} {rest : List Job} (hpin : s.resetPin = false) (hj : s.jobs = j :: rest)
    (hk : j.kind = .digest) : exec .digestEnd s = .next (s.endDigest j rest) := by
  simp only [exec, execDigestEnd, hj, hpin, hk, and_self, if_true]

theorem exec_digestEnd_idle {s : State} (h : ∀ j rest, s.jobs = j :: rest → j.kind ≠ .digest) :
    exec .digestEnd s = .next s := by
  simp only [exec, execDigestEnd]
  cases hj : s.jobs with
  | nil => rfl
  | cons j rest => exact if_neg fun hk => h j rest hj hk.2

/-- Settles O50: the item of DGST by its checks, and `endDigest`. -/
theorem digestJobs : Obligations.DigestJobs := by
  refine ⟨fun tag slot start count s h => ⟨fun hslot => refuses_of_work rfl h (slotItem_badField hslot),
      fun i hslot => ?_⟩,
    fun j rest s hpin hj hk => exec_digestEnd hpin hj hk, fun s => exec_digestEnd_idle⟩
  rw [exec_engine rfl h, slotItem_some hslot, dgstWork_finish]
  rfl

end Sys2Proof.Machine
end

section
/-! PROOFS. Reopening a wafer for retest (spec/07, R148 to R150): the released cells and their number, the limits
evaluated again, and the item of an RPWF. -/

namespace Sys2Proof.Machine

open Sys2Proof.Safety

/-! ### The released cells (R150) -/

/-- A cell listed ahead of a memory that does not list it adds to a count over the indices when it is one of them. -/
theorem countP_read_cons {p : Cell → Bool} {j size : Nat} {c : Cell} {m : Memory} (h : p (Memory.read j m) = false) :
    (List.range size).countP (fun k => p (Memory.read k ((j, c) :: m))) =
      (List.range size).countP (fun k => p (Memory.read k m)) + (decide (j < size) && p c).toNat := by
  have hne : ∀ k, k ≠ j → p (Memory.read k ((j, c) :: m)) = p (Memory.read k m) := fun k hk => by
    rw [Memory.read, if_neg hk]
  have hself : Memory.read j ((j, c) :: m) = c := if_pos rfl
  by_cases hj : j < size
  · have hupdate := countP_update List.nodup_range (List.mem_range.2 hj) (fun k => p (Memory.read k m))
      (fun k => p (Memory.read k ((j, c) :: m))) fun k _ => hne k
    simp only [h, hself, Bool.toNat_false, Nat.add_zero] at hupdate
    rw [hupdate, decide_eq_true hj, Bool.true_and]
  · rw [decide_eq_false hj, Bool.false_and, Bool.toNat_false, Nat.add_zero]
    exact List.countP_congr fun k hk => by rw [hne k fun hkj => hj (hkj ▸ List.mem_range.1 hk)]

/-- In a canonical memory the FORCED records below a size are the FORCED cells of the map. -/
theorem Memory.forcedCount_eq {lo size : Nat} {m : Memory} (hm : Memory.wfFrom lo m = true) :
    m.forcedCount size = (List.range size).countP fun k => (Memory.read k m).status == .forced := by
  induction m generalizing lo with
  | nil => exact (List.countP_eq_zero.2 fun k _ => by simp [Memory.read, Cell.blank]).symm
  | cons e m ih =>
    obtain ⟨j, c⟩ := e
    obtain ⟨-, -, htail⟩ := Memory.wfFrom_cons.1 hm
    have hblank : Memory.read j m = Cell.blank := Memory.read_below htail (Nat.lt_succ_self j)
    have hcons := countP_read_cons (p := fun c => c.status == .forced) (size := size) (c := c)
      (show ((Memory.read j m).status == .forced) = false by rw [hblank]; rfl)
    rw [hcons, ← ih htail, Memory.forcedCount, Memory.forcedCount, List.countP_cons]
    cases decide (j < size) && c.status == .forced <;> rfl

theorem Slot.releasable_of_forceHold {sl : Slot} (h : sl.forceHold = true) : sl.releasable = 0 := by
  simp only [Slot.releasable, h, if_true]

theorem Slot.releasable_eq {sl : Slot} (h : sl.forceHold = false) (hwf : sl.cells.wf = true) :
    sl.releasable = cellCount sl fun c => c.status == .forced := by
  simp only [Slot.releasable, h, Bool.false_eq_true, if_false]
  exact Memory.forcedCount_eq hwf

/-- R150: the cells after a reopen. -/
theorem Slot.reopened_cell (sl : Slot) (k : Nat) : sl.reopened.cell k =
    if sl.forceHold = false ∧ k < sl.size ∧ (sl.cell k).status = .forced then { sl.cell k with status := .tested }
    else sl.cell k := by
  have hcells : sl.reopened.cell k = (if sl.forceHold then sl.cells else sl.cells.release sl.size).read k := rfl
  rw [hcells]
  cases hf : sl.forceHold with
  | true => rw [if_pos rfl, if_neg fun h => Bool.noConfusion h.1]; rfl
  | false =>
    rw [if_neg Bool.false_ne_true, Memory.read_release]
    by_cases hk : k < sl.size
    · rw [if_pos hk, releaseCell]
      exact if_congr (by simp only [hk, true_and, Slot.cell]) rfl rfl
    · rw [if_neg hk, if_neg fun h => hk h.2.1]
      rfl

/-! ### The reopened slot (R149) -/

/-- The slot record of an accepted RPWF, its limits evaluated and marked again. -/
def reopenedSlot (s : State) (i : Fin 64) : Slot :=
  { Slot.reopened s.slots[i] with limits :=
      (evaluate (s.recipeOfSlot i) (s.recipeOfSlot i).scalars.waferFloor s.slots[i].tallies
        { s.slots[i].limits with seen := false }).remark }

theorem reopenedSlot_cell (s : State) (i : Fin 64) (k : Nat) :
    (reopenedSlot s i).cell k = s.slots[i].reopened.cell k := by
  simp only [Slot.cell, reopenedSlot]

theorem LimitStates.remark_seen (l : LimitStates) : l.remark.seen = true ↔ l.seen = true ∨ l.active = true := by
  rw [LimitStates.remark, Bool.or_eq_true]

section Reopen

variable {c : Instr} {tag : Byte} {i : Fin 64} {s : State} {d : Identity}

theorem reopen_finish (h : s.slots[i].identity = some d) : (reopen c tag i s).finish =
    answered (.rsp tag c.code .ok (be3 s.slots[i].releasable ++ flagBytes [(reopenedSlot s i).limits.seen]))
      (((s.setSlot i (reopenedSlot s i)).setMember (some d) fun m =>
          { m with finalYield := none, disposition := .none }).offerAll 1
        ((limitChanges (s.recipeOfSlot i) (s.recipeOfSlot i).scalars.waferFloor s.slots[i].tallies
          { s.slots[i].limits with seen := false }).map (waferAlert i (some d)))) := by
  obtain ⟨a, ha⟩ : ∃ a, (s.setSlot i s.slots[i].reopened).setMember (some d)
      (fun m => { m with finalYield := none, disposition := .none }) = a := ⟨_, rfl⟩
  have hslot : a.slots[i] = s.slots[i].reopened := by
    rw [← ha, State.setMember_slots, State.setSlot, get_set_self]
  have hrecipe : a.recipeOfSlot i = s.recipeOfSlot i := by
    rw [State.recipeOfSlot, hslot, State.recipeAt_congr (s := s) (by rw [← ha]; rfl)]
    rfl
  have hset : ∀ sl, a.setSlot i sl = (s.setSlot i sl).setMember (some d)
      fun m => { m with finalYield := none, disposition := .none } := fun sl => by
    rw [← ha]
    simp only [State.setMember, State.setLot, State.setSlot, Vector.set_set]
  obtain ⟨u, hu⟩ : ∃ u, a.evaluateSlot i = u := ⟨_, rfl⟩
  have hu1 : ∀ sl, u.1.setSlot i sl = a.setSlot i sl := fun sl => by
    rw [← hu, State.evaluateSlot_fst, State.setSlot, State.setSlot, State.setSlot, Vector.set_set]
  have hu2 : u.1.slots[i] = { s.slots[i].reopened with
      limits := evaluate (s.recipeOfSlot i) (s.recipeOfSlot i).scalars.waferFloor s.slots[i].tallies
        { s.slots[i].limits with seen := false } } := by
    rw [← hu, State.evaluateSlot_fst, State.setSlot, get_set_self, hslot, hrecipe]
    rfl
  have halerts : u.2 = (limitChanges (s.recipeOfSlot i) (s.recipeOfSlot i).scalars.waferFloor s.slots[i].tallies
      { s.slots[i].limits with seen := false }).map (waferAlert i (some d)) := by
    rw [← hu, State.evaluateSlot, hslot, hrecipe, ← h]
    rfl
  simp only [reopen, h, ha, hu, hu2, hu1, halerts, hset]
  exact Item.finish_alerts ..

theorem rpwfWork_exporting (h : s.slots[i].state = .exporting) : rpwfWork c tag i s = .refuse c tag .busy s := if_pos h

theorem rpwfWork_wrongState (h : s.slots[i].state ≠ .exporting) (hc : s.slots[i].state ≠ .closed) :
    rpwfWork c tag i s = .refuse c tag .wrongState s := (if_neg h).trans (if_pos hc)

theorem rpwfWork_closed (h : s.slots[i].state = .closed) : rpwfWork c tag i s =
    if s.slots[i].busy.isSome = true then .refuse c tag .busy s
    else if s.lotOpen s.slots[i].identity = false then .refuse c tag .lotClosed s
    else reopen c tag i s := (if_neg (by rw [h]; nofun)).trans (if_neg (not_not.2 h))

end Reopen

/-- Settles O49: the checks one by one, and the reopened slot. -/
theorem reopenWafer : Obligations.ReopenWafer := by
  refine fun tag slot s h => ⟨fun hslot => refuses_of_work rfl h (slotItem_badField hslot), fun i hslot =>
    ⟨fun hexp => refuses_of_work rfl h ((slotItem_some hslot).trans (rpwfWork_exporting hexp)),
      fun hexp hc => refuses_of_work rfl h ((slotItem_some hslot).trans (rpwfWork_wrongState hexp hc)),
      fun hc hb => refuses_of_work rfl h ((slotItem_some hslot).trans ?_),
      fun d hc hb hd => ⟨fun hlot => refuses_of_work rfl h ((slotItem_some hslot).trans ?_), fun hlot => ?_⟩⟩⟩
  · rw [rpwfWork_closed hc, if_pos (Option.isSome_iff_ne_none.2 hb)]
  · have hnot : s.lotOpen s.slots[i].identity = false := by
      rw [hd, State.lotOpen]
      exact beq_eq_false_iff_ne.2 hlot
    rw [rpwfWork_closed hc, hb, if_neg (by simp), if_pos hnot]
  · have hopen : s.lotOpen s.slots[i].identity = true := by
      rw [hd, State.lotOpen]
      exact beq_iff_eq.2 hlot
    have hitem : rpwfWork (.rpwf tag slot) tag i s = reopen (.rpwf tag slot) tag i s := by
      rw [rpwfWork_closed hc, hb, if_neg (by simp), hopen, if_neg (by simp)]
    refine ⟨reopenedSlot s i, s.slots[i].releasable, ?_, ?_, ?_, Slot.releasable_of_forceHold,
      Slot.releasable_eq, ?_⟩
    · rw [exec_engine rfl h, slotItem_some hslot, hitem, reopen_finish hd]
      rfl
    · rfl
    · exact fun k => (reopenedSlot_cell s i k).trans (s.slots[i].reopened_cell k)
    · exact ⟨rfl, rfl, LimitStates.remark_seen _⟩

end Sys2Proof.Machine
end

section
/-! PROOFS. Export (spec/07, R156 to R161): XPRT, the map chunks, XSTP and the map end. -/

namespace Sys2Proof.Machine

open Sys2Proof.Safety

section Export

variable {c : Instr} {tag : Byte} {i : Fin 64} {s : State} {x : Transfer}

/-- R159: four free entries of CL's outbound queue, which holds 32. -/
theorem room_cl_iff : 4 ≤ s.room cl 0 ↔ s.links[cl].outbound.length ≤ 28 := by
  have hcap : outCap cl = 32 := rfl
  rw [State.room, hcap]
  omega

/-! ### XPRT and XSTP (R157, R158, R161) -/

theorem xprtWork_finish : (xprtWork c tag i s).finish =
    if s.transfer ≠ none then answered (.rsp tag c.code .busy []) s
    else if s.slots[i].state ≠ .closed then answered (.rsp tag c.code .wrongState []) s
    else if s.slots[i].busy ≠ none then answered (.rsp tag c.code .busy []) s
    else answered (.acc tag c.code (be1 i.val ++ be2 (chunkCount s.slots[i].size))) { s with
      slots := s.slots.set i { s.slots[i] with state := .exporting, busy := some .transfer }
      transfer := some ⟨i, tag, chunkCount s.slots[i].size, 0, 0xFFFF, false, .chunks⟩ } := by
  simp only [xprtWork, apply_ite Item.finish, Item.finish_refuse, Item.finish_accept, Option.isSome_iff_ne_none]
  rfl

theorem xstpItem_idle (h : s.transfer = none) : xstpItem c tag s = .refuse c tag .notRunning s := by
  rw [xstpItem, h]

theorem xstpItem_running (h : s.transfer = some x) : xstpItem c tag s = .ok c tag (be1 x.slot.val ++ be2 x.nextChunk)
    { s with transfer := some { x with stop := true, phase := .ending } } := by
  rw [xstpItem, h]

/-! ### The chunks and the map end (R159, R160) -/

theorem exec_mch (hpin : s.resetPin = false) (hx : s.transfer = some x) (hp : x.phase = .chunks) :
    exec .mch s = .next (if s.links[cl].outbound.length ≤ 28 then s.placeChunk x else s) := by
  simp only [exec, execMch, hx, hpin, hp, true_and, room_cl_iff, ← apply_ite]

theorem exec_mch_idle (h : ∀ x, s.transfer = some x → x.phase ≠ .chunks) : exec .mch s = .next s := by
  simp only [exec, execMch]
  cases hx : s.transfer with
  | none => rfl
  | some x => exact if_neg fun hc => h x hx hc.2.1

theorem exec_mnd (hpin : s.resetPin = false) (hx : s.transfer = some x) (hp : x.phase = .ending) :
    exec .mnd s = .next (if s.links[cl].outbound.length ≤ 28 then s.endExport x else s) := by
  simp only [exec, execMnd, hx, hpin, hp, true_and, room_cl_iff, ← apply_ite]

theorem exec_mnd_idle (h : ∀ x, s.transfer = some x → x.phase ≠ .ending) : exec .mnd s = .next s := by
  simp only [exec, execMnd]
  cases hx : s.transfer with
  | none => rfl
  | some x => exact if_neg fun hc => h x hx hc.2.1

end Export

/-- Settles O51: the items by their checks, and `placeChunk` and `endExport` with the room they ask for. -/
theorem exportPath : Obligations.ExportPath := by
  refine ⟨fun tag slot s h => ⟨fun hslot => refuses_of_work rfl h (slotItem_badField hslot), fun i hslot => ?_⟩,
    fun x s hpin hx hp => exec_mch hpin hx hp, fun x s hpin hx hp => exec_mnd hpin hx hp,
    fun tag s h => ⟨fun hx => refuses_of_work rfl h (xstpItem_idle hx), fun x hx => ?_⟩,
    fun s => exec_mch_idle, fun s => exec_mnd_idle⟩
  · rw [exec_engine rfl h, slotItem_some hslot, xprtWork_finish]
    rfl
  · rw [exec_engine rfl h, xstpItem_running hx, Item.finish_ok]
    rfl

end Sys2Proof.Machine
end

section
/-! PROOFS. Bindings and site maps (spec/03): UBND, RSMB and STMP. -/

namespace Sys2Proof.Machine

open Sys2Proof.Safety

/-! ### UBND and RSMB (R47, R58, R59) -/

section Binding

variable {c : Instr} {tag : Byte} {n : Fin 12} {a : Fin 4} {s : State}

theorem ubndWork_finish : (ubndWork c tag n a s).finish =
    answered (.rsp tag c.code .ok [slotByte s.testers[n].bindings[a].slot])
      ((s.setBinding n a Binding.unbound).offerAll 1 (alarmClear n a s.testers[n].bindings[a])) :=
  Item.finish_alerts ..

theorem rsmbWork_bound {i : Fin 64} (h : s.testers[n].bindings[a].slot = some i) : (rsmbWork c tag n a s).finish =
    answered (.rsp tag c.code .ok (rsmbFields s.testers[n].bindings[a]))
      ((s.setBinding n a ⟨some i, none, 0, false⟩).offerAll 1
        (if s.testers[n].bindings[a].alarm = true then [.runAlarm .clear n (a.val + 1) i 0] else [])) := by
  have hclear : alarmClear n a s.testers[n].bindings[a] =
      if s.testers[n].bindings[a].alarm = true then [.runAlarm .clear n (a.val + 1) i 0] else [] := by
    rw [alarmClear, h]
  rw [← hclear, ← h]
  exact (congrArg Item.finish (if_pos (by rw [h]; rfl))).trans (Item.finish_alerts ..)

theorem rsmbWork_unbound (h : s.testers[n].bindings[a].slot = none) : (rsmbWork c tag n a s).finish =
    answered (.rsp tag c.code .ok (rsmbFields s.testers[n].bindings[a])) s :=
  (congrArg Item.finish (if_neg (by rw [h]; exact Bool.false_ne_true))).trans (Item.finish_ok ..)

theorem rsmbFields_eq {e : Binding} {slot : Option (Fin 64)} (h : e.slot = slot) : rsmbFields e =
    [slotByte slot, (match e.runBin with | some b => BitVec.ofNat 8 b.val | none => 0), BitVec.ofNat 8 e.runLength] ++
      flagBytes [slot != none, e.alarm] := by
  subst h
  have hsome : e.slot.isSome = (e.slot != none) := by cases e.slot <;> rfl
  rw [rsmbFields, hsome]
  cases e.runBin <;> rfl

end Binding

/-- Settles O53: both items on the entry that the link and the alias name. -/
theorem unbindAndResetMonitor : Obligations.UnbindAndResetMonitor := by
  refine ⟨fun tag link aliasNo s h => ⟨fun hbad => refuses_of_work rfl h (aliasItem_outOfRange hbad),
      fun n a hn ha => ?_⟩,
    fun tag link aliasNo s h => ⟨fun hbad => refuses_of_work rfl h (aliasItem_outOfRange hbad),
      fun n a hn ha => ?_⟩⟩
  · rw [exec_engine rfl h, aliasItem_of_named hn ha, ubndWork_finish]
    rfl
  · rw [exec_engine rfl h, aliasItem_of_named hn ha]
    refine congrArg _ ?_
    dsimp only
    cases hslot : s.testers[n].bindings[a].slot with
    | none =>
      exact (rsmbWork_unbound hslot).trans
        (congrArg (fun fields => answered (.rsp tag 0x2B .ok fields) _) (rsmbFields_eq hslot))
    | some i =>
      exact (rsmbWork_bound hslot).trans
        (congrArg (fun fields => answered (.rsp tag 0x2B .ok fields) _) (rsmbFields_eq hslot))

/-! ### STMP (R50, R51) -/

section Stmp

variable {c : Instr} {tag link count : Byte} {entries : List SiteWire} {s : State}

/-- R50: what makes an STMP refused. -/
def StmpBad (link count : Byte) (entries : List SiteWire) : Prop :=
  12 ≤ link.toNat ∨ count.toNat = 0 ∨ 32 < count.toNat ∨
    ∃ e ∈ entries, 32 ≤ e.site.toNat ∨ e.dx.toInt < -15 ∨ 15 < e.dx.toInt ∨ e.dy.toInt < -15 ∨ 15 < e.dy.toInt

theorem stmpEntriesOk_iff : stmpEntriesOk entries = true ↔ ¬ ∃ e ∈ entries, 32 ≤ e.site.toNat ∨ e.dx.toInt < -15 ∨
    15 < e.dx.toInt ∨ e.dy.toInt < -15 ∨ 15 < e.dy.toInt := by
  simp only [stmpEntriesOk, offsetOk, List.all_eq_true, Bool.and_eq_true, decide_eq_true_eq, not_exists, not_and]
  exact forall₂_congr fun e _ => by omega

theorem stmpItem_bad (h : StmpBad link count entries) :
    stmpItem c tag link count entries s = .refuse c tag .badField s := by
  unfold stmpItem
  split
  case _ => rfl
  case _ n hn =>
    refine if_neg fun ⟨h1, h2, h3⟩ => ?_
    obtain hlink | h0 | h32 | he := h
    · rw [testerOf, dif_neg (not_lt.2 hlink)] at hn
      cases hn
    · omega
    · omega
    · exact stmpEntriesOk_iff.1 h3 he

theorem stmpItem_ok {n : Fin 12} (h : ¬ StmpBad link count entries) (hn : link.toNat = n.val) :
    stmpItem c tag link count entries s = .ok c tag [count]
      (s.setTester n { s.testers[n] with sites := entries.foldl writeSite s.testers[n].sites }) := by
  simp only [StmpBad, not_or] at h
  obtain ⟨-, h0, h32, he⟩ := h
  rw [stmpItem, testerOf_eq_some hn]
  exact if_pos ⟨by omega, by omega, stmpEntriesOk_iff.2 he⟩

theorem writeSite_get (m : Vector SiteEntry 32) (e : SiteWire) (k : Fin 32) : (writeSite m e)[k] =
    if e.site.toNat = k.val then ⟨yesByte e.enabled, e.dx.toInt, e.dy.toInt⟩ else m[k] := by
  unfold writeSite
  split
  · exact Vector.getElem_set ..
  · next h =>
    have hne : e.site.toNat ≠ k.val := fun hk => h (hk ▸ k.isLt)
    rw [if_neg hne]

/-- R51: the entry of a site that no listing names stays. -/
theorem foldl_writeSite_unlisted (m : Vector SiteEntry 32) {k : Fin 32} (h : ∀ e ∈ entries, e.site.toNat ≠ k.val) :
    (entries.foldl writeSite m)[k] = m[k] := by
  induction entries generalizing m with
  | nil => rfl
  | cons e rest ih =>
    rw [List.foldl_cons, ih _ fun f hf => h f (List.mem_cons_of_mem e hf), writeSite_get,
      if_neg (h e List.mem_cons_self)]

/-- R51: the last listing of a site stands. -/
theorem foldl_writeSite_listed (m : Vector SiteEntry 32) {k : Fin 32} {before after : List SiteWire} {e : SiteWire}
    (he : e.site.toNat = k.val) (h : ∀ f ∈ after, f.site.toNat ≠ k.val) :
    ((before ++ e :: after).foldl writeSite m)[k] = ⟨yesByte e.enabled, e.dx.toInt, e.dy.toInt⟩ := by
  rw [List.foldl_append, List.foldl_cons, foldl_writeSite_unlisted _ h, writeSite_get, if_pos he]

end Stmp

/-- Settles O54: the check of the whole command, and the fold of its listings. -/
theorem siteMapIsWrittenWhole : Obligations.SiteMapIsWrittenWhole := by
  refine fun tag link count entries s h => ⟨fun hbad => refuses_of_work rfl h (stmpItem_bad hbad), fun n hok hn =>
    ⟨entries.foldl writeSite s.testers[n].sites, ?_, fun k => foldl_writeSite_unlisted _,
      fun k before after e hl he hafter => ?_⟩⟩
  · rw [exec_engine rfl h, stmpItem_ok hok hn, Item.finish_ok]
    rfl
  · subst hl
    exact foldl_writeSite_listed _ he hafter

end Sys2Proof.Machine
end
